-- ==== Sys2Proof/Word.lean ====
section
/-! DEFINITION. The widths of the part (chapter 00 "Indices", "Conventions") and the four-fold record that holds what
every link has one of. -/

namespace Sys2Proof

/-- A 16-bit bus word (R201). -/
abbrev Word := BitVec 16
/-- A payload, header or check byte. -/
abbrev Byte := BitVec 8
/-- Link numbers are 0..3. -/
abbrev LinkId := Fin 4
/-- Descriptor indices are 0..63 (R4). -/
abbrev DescId := Fin 64
/-- Block indices are 0..127 (R1). -/
abbrev BlockId := Fin 128
/-- Epochs are 0..15, advance modulo 16 and are compared for equality (chapter 00 "Epochs"). -/
abbrev Epoch := BitVec 4
/-- Ordinals are 0..63 with arithmetic modulo 64 (chapter 00 "Ordinal arithmetic"). -/
abbrev Ordinal := BitVec 6

/-- One value for each of the four links. -/
structure Quad (α : Type) where
  l0 : α
  l1 : α
  l2 : α
  l3 : α
  deriving DecidableEq, Repr

/-- The value of link `n`. -/
def Quad.get {α : Type} (q : Quad α) (n : LinkId) : α :=
  match n with
  | 0 => q.l0
  | 1 => q.l1
  | 2 => q.l2
  | 3 => q.l3

/-- `q` with link `n`'s value replaced. -/
def Quad.set {α : Type} (q : Quad α) (n : LinkId) (a : α) : Quad α :=
  match n with
  | 0 => { q with l0 := a }
  | 1 => { q with l1 := a }
  | 2 => { q with l2 := a }
  | 3 => { q with l3 := a }

/-- `f` applied to every link's value, with the link's number. -/
def Quad.map {α β : Type} (f : LinkId → α → β) (q : Quad α) : Quad β :=
  ⟨f 0 q.l0, f 1 q.l1, f 2 q.l2, f 3 q.l3⟩

/-- The same value for every link. -/
def Quad.const {α : Type} (a : α) : Quad α := ⟨a, a, a, a⟩

end Sys2Proof
end

