-- ==== Sys2Proof/Syntax.lean ====
section
/-! DEFINITION. The commands: one constructor for each row of spec/opcode_table.json, in the table's order. A row
that stands for a host access carries what the access carries; a row that stands for an event of a line, a timer or a
Link Engine carries the link it happens on and the fields of the parcel concerned. -/

namespace Sys2Proof

/-- Which set of event flags or masks a write names: the global one, or that of the link in LINK SELECT (R181, R187). -/
inductive EventSet where
  | global
  | link
  deriving DecidableEq, Repr

/-- Which LINE LIMITS word is written: word 0 is the gap limit, word 1 the line-loss limit (R31, R205). -/
inductive LimitWord where
  | gap
  | lineLoss
  deriving DecidableEq, Repr

/-- The commands of spec/opcode_table.json. In a host command `link` is bits 7-4 of the COMMAND word (R206). -/
inductive Instr where
  /-- OPEN (R66). -/
  | hostOpen (link : BitVec 4)
  /-- CLOSE (R67). -/
  | hostClose (link : BitVec 4)
  /-- ABORT (R68). -/
  | hostAbort (link : BitVec 4)
  /-- LINK RESET (R85). -/
  | linkReset (link : BitVec 4)
  /-- SET GUARANTEE (R13); the value is in ARGUMENT A (R207). -/
  | setGuarantee (link : BitVec 4)
  /-- BEGIN (R160); the length is in ARGUMENT A and the tag in ARGUMENT B (R207). -/
  | beginStaging (link : BitVec 4)
  /-- COMMIT (R163); the link number is ignored. -/
  | commit (link : BitVec 4)
  /-- CANCEL (R165); the link number is ignored. -/
  | cancel (link : BitVec 4)
  /-- RELEASE (R171); the link number is ignored. -/
  | release (link : BitVec 4)
  /-- POP (R175); the link number is ignored. -/
  | pop (link : BitVec 4)
  /-- CLEAR COUNTERS (R199). -/
  | clearCounters (link : BitVec 4)
  /-- DEVICE RESET (R210); the link number is ignored. -/
  | deviceReset (link : BitVec 4)
  /-- A COMMAND write whose code names no command (R206). -/
  | unassignedCommandCode (code link : BitVec 4)
  /-- /RST asserted and released, or the supply below the threshold and back (R209). -/
  | pinReset
  /-- A write to STAGE DATA (R161). -/
  | stageDataWrite (word : Word)
  /-- A read of DELIVERY DATA (R169). -/
  | deliveryDataRead
  /-- A read of COUNTER VALUE (R198). -/
  | counterValueRead
  /-- A read of LINK STATUS (R203). -/
  | linkStatusRead
  /-- A write to LINK SELECT (R203). -/
  | linkSelectWrite (word : Word)
  /-- A write to GLOBAL EVENTS or LINK EVENTS (R181). -/
  | eventsWrite (set : EventSet) (word : Word)
  /-- A write to GLOBAL MASK or LINK MASK (R187). -/
  | maskWrite (set : EventSet) (word : Word)
  /-- A write to POOL WATERMARK (R19). -/
  | poolWatermarkWrite (word : Word)
  /-- A write to a LINE LIMITS word (R31). -/
  | lineLimitsWrite (limit : LimitWord) (word : Word)
  /-- A write to a word address without a row of its own (R202). -/
  | registerWrite (address : BitVec 5) (word : Word)
  /-- The twelve samples of a character on RXD (R25), bit i the level in the middle of bit time i, 1 for mark (R211). -/
  | receiveCharacter (link : LinkId) (samples : BitVec 12)
  /-- RXD has been at space for 2 character times (R27). -/
  | lineBreak (link : LinkId)
  /-- The line-loss timer expires (R29). -/
  | lineLossExpiry (link : LinkId)
  /-- The gap timer expires (R41). -/
  | gapTimerExpiry (link : LinkId)
  /-- The stored DATA parcel of the link's receive record is handed to the Link Engine (R43, R138). -/
  | receiveData (link : LinkId)
  /-- A RECEIPT parcel is handed to the Link Engine (R98). -/
  | receiveReceipt (link : LinkId) (epoch : Epoch) (cumulative : Ordinal) (gapMap : BitVec 7) (credit : Byte)
  /-- A QUERY parcel is handed to the Link Engine (R149). -/
  | receiveQuery (link : LinkId) (epoch : Epoch)
  /-- An OPEN parcel is handed to the Link Engine (R70). -/
  | receiveOpen (link : LinkId) (epoch : Epoch) (rank : BitVec 2) (credit : Byte)
  /-- A GRANT parcel is handed to the Link Engine (R73). -/
  | receiveGrant (link : LinkId) (epoch : Epoch) (credit : Byte)
  /-- A CLOSE parcel is handed to the Link Engine (R75). -/
  | receiveClose (link : LinkId) (epoch : Epoch)
  /-- A CLOSE-ACK parcel is handed to the Link Engine (R76). -/
  | receiveCloseAck (link : LinkId) (epoch : Epoch)
  /-- A DROP parcel is handed to the Link Engine (R78). -/
  | receiveDrop (link : LinkId) (epoch : Epoch)
  /-- The Link Engine tests the drain condition (R74). -/
  | drainComplete (link : LinkId)
  /-- The transmitter is at a parcel boundary (R56). -/
  | transmitChoice (link : LinkId)
  /-- The EOP of a DATA parcel has been sent (R34). -/
  | transmissionEnd (link : LinkId)
  /-- The ABORT of a parcel cut short has been sent (R35). -/
  | abortEnd (link : LinkId)
  /-- The character time at mark after a reset has passed (R36). -/
  | transmitterFillStart (link : LinkId)
  /-- The link timer expires in CONTROL mode (R121). -/
  | controlExpiry (link : LinkId)
  /-- The link timer expires in RESEND mode (R124). -/
  | resendExpiry (link : LinkId)
  /-- The link timer expires in QUERY mode (R129). -/
  | queryExpiry (link : LinkId)
  /-- The receipt hold timer expires (R146). -/
  | receiptHoldExpiry (link : LinkId)
  /-- RXD returns to mark after a long space (R27). -/
  | rxdReturnsToMark (link : LinkId)
  deriving DecidableEq, Repr

end Sys2Proof
end

