-- ==== Sys2Proof/WellFormed.lean ====
section
/-! DEFINITION. Which terms of Instr are rows of the table: the operand types do most of it; what is left are the
command codes that name no command (R206) and the addresses that have no row of their own (R202). -/

namespace Sys2Proof

/-- Codes 0h, Ch, Dh and Eh name no command (R206). -/
def unassignedCode (code : BitVec 4) : Bool :=
  code == 0 || code == 0xC || code == 0xD || code == 0xE

/-- Word addresses whose write is a row of its own in the table: COMMAND, LINK SELECT, GLOBAL EVENTS, GLOBAL MASK,
LINK EVENTS, LINK MASK, LINE LIMITS, POOL WATERMARK and STAGE DATA (R202). -/
def addressWithOwnRow (address : BitVec 5) : Bool :=
  [0x00#5, 0x03#5, 0x05#5, 0x06#5, 0x07#5, 0x08#5, 0x10#5, 0x11#5, 0x14#5, 0x18#5].contains address

/-- The term is a row of the table with operands that the row can have. -/
def Instr.wf : Instr → Bool
  | .unassignedCommandCode code _ => unassignedCode code
  | .registerWrite address _ => !addressWithOwnRow address
  | _ => true

end Sys2Proof
end

