-- ==== Sys2Proof/Decode.lean ====
section
/-! DEFINITION. From a bus access to a command (R201, R202, R206), and `decodeTableWord`: the table gives no row
bits, and the words to which the spec itself gives a command's bits are those of COMMAND (R206; log entry 18). -/

namespace Sys2Proof

/-- The command that a word written to COMMAND carries: the code in bits 3-0, the link number in bits 7-4, bits 15-8
ignored (R206). -/
def commandRow (word : Word) : Instr :=
  let link := word.extractLsb' 4 4
  match (word.extractLsb' 0 4).toNat with
  | 1 => .hostOpen link
  | 2 => .hostClose link
  | 3 => .hostAbort link
  | 4 => .linkReset link
  | 5 => .setGuarantee link
  | 6 => .beginStaging link
  | 7 => .commit link
  | 8 => .cancel link
  | 9 => .release link
  | 10 => .pop link
  | 11 => .clearCounters link
  | 15 => .deviceReset link
  | _ => .unassignedCommandCode (word.extractLsb' 0 4) link

/-- The command that a write access at a word address is (R202). -/
def writeRow (address : BitVec 5) (word : Word) : Instr :=
  match address.toNat with
  | 0x00 => commandRow word
  | 0x03 => .linkSelectWrite word
  | 0x05 => .eventsWrite .global word
  | 0x06 => .maskWrite .global word
  | 0x07 => .eventsWrite .link word
  | 0x08 => .maskWrite .link word
  | 0x10 => .lineLimitsWrite .gap word
  | 0x11 => .lineLimitsWrite .lineLoss word
  | 0x14 => .poolWatermarkWrite word
  | 0x18 => .stageDataWrite word
  | _ => .registerWrite address word

/-- The command that a read access at a word address is; `none` where the read changes nothing and the table has no row
for it (R201: the effects a read can have). -/
def readRow (address : BitVec 5) : Option Instr :=
  match address.toNat with
  | 0x03 => some .linkStatusRead
  | 0x1B => some .deliveryDataRead
  | 0x1E => some .counterValueRead
  | _ => none

/-- One assertion of /CS with a strobe, as the bus shows it (R201). -/
structure BusCycle where
  /-- /RST is asserted. -/
  reset : Bool
  /-- /RD is the strobe that came with /CS. -/
  read : Bool
  /-- /WR is the strobe that came with /CS. -/
  write : Bool
  /-- The other strobe was asserted while the access was in progress. -/
  otherStrobe : Bool
  /-- A4-A0. -/
  address : BitVec 5
  /-- D15-D0 at the end of the cycle. -/
  data : Word
  deriving DecidableEq, Repr

/-- A bus access that the BIU takes. -/
inductive Access where
  | read (address : BitVec 5)
  | write (address : BitVec 5) (word : Word)
  deriving DecidableEq, Repr

/-- The access a bus cycle is (R201): none while /RST is asserted or unless exactly one strobe comes with /CS; a read is
taken at its start, so the other strobe does not undo it; a write in progress when the other strobe is asserted is not
taken. -/
def BusCycle.access (c : BusCycle) : Option Access :=
  if c.reset || c.read == c.write then none
  else if c.read then some (.read c.address)
  else if c.otherStrobe then none
  else some (.write c.address c.data)

/-- The command of an access, where the table has a row for it. -/
def Access.row : Access → Option Instr
  | .read address => readRow address
  | .write address word => some (writeRow address word)

/-- The host's question: the command that a word spells. The table gives no row bits, so the bits are those that the spec gives
a COMMAND word: the code in bits 3-0 and the link number in bits 7-4, bits 15-8 ignored, so that 8 bits spell it too (R206;
log entry 18). A word of another length spells none. -/
def decodeTableWord (nbits w : Nat) : Option Instr :=
  if nbits = 8 ∨ nbits = 16 then some (commandRow (BitVec.ofNat 16 w)) else none

end Sys2Proof
end

