-- ==== Sys2Proof/Config.lean ====
section
/-! DEFINITION. The fixed sizes of the part, and the one free value of the model. -/

namespace Sys2Proof.Config

/-- Bytes in a block (R1). -/
def blockBytes : Nat := 64
/-- Bytes of parcel memory: 128 blocks of 64 (R1). -/
def memoryBytes : Nat := 8192
/-- The longest payload (R1, R48). -/
def maxLength : Nat := 240
/-- The most descriptors a submit queue or a retention queue holds (R87, R91). -/
def windowSize : Nat := 8
/-- Bit times in a character (R22). -/
def charBits : Nat := 12
/-- Good characters that bring a line UP (R28). -/
def goodRun : Nat := 16
/-- What a byte of parcel memory that nothing has written reads as.
DESIGN CHOICE (log entry 7), unsafe: the spec gives no value, and no port returns such a byte (R1). -/
def unwrittenByte : Byte := 0

/-- FREE VALUE (log entry 3): the order in which events that fall due in one REFCLK period reach the part. The spec says
that either may be taken first (R41, R115, R127, R146 and others); nothing constrains these numbers. -/
opaque arrivalOrder : Nat → Nat

end Sys2Proof.Config
end

