-- ==== Sys2Proof/Machine/State.lean ====
section
/-! DEFINITION. Everything the spec gives the part to hold, as plain data, and its value after a pin reset.
What one name of the spec works out from others (used_L, /INT, EVENT SUMMARY, LINKn_UP#, TXDn) is computed from these
fields, not held twice. -/

namespace Sys2Proof.Machine

/-! ## Parcel pool (chapter 1) -/

/-- Parcel memory as (address, byte) pairs in canonical form; address = block * 64 + byte (R1). -/
abbrev Memory := List Host.Cell

/-- *state* of a descriptor (R4, R5). -/
inductive DescState where
  | free
  | staging
  | submitted
  | retained
  | detached
  | assembling
  | held
  | delivered
  | completed
  deriving DecidableEq, Repr

/-- *direction*: OUT for a parcel staged by the host, IN for one received from a line (R4). -/
inductive Direction where
  | outbound
  | inbound
  deriving DecidableEq, Repr

/-- *outcome*: why a parcel left the transmit side (R4). -/
inductive ParcelOutcome where
  | delivered
  | abandoned
  | discard
  deriving DecidableEq, Repr

/-- A descriptor record (R4). `none` is the spec's "absent"; a FREE descriptor is the record of defaults (R7). -/
structure Descriptor where
  state : DescState := .free
  link : Option LinkId := none
  direction : Option Direction := none
  /-- Payload length in bytes, 1..240. -/
  length : Option Nat := none
  /-- The blocks that hold the payload, in payload order; empty in FREE and COMPLETED. -/
  blocks : List BlockId := []
  epoch : Option Epoch := none
  ordinal : Option Ordinal := none
  tag : Option Byte := none
  /-- Copies sent after the first, 0..15, saturating. -/
  resends : Option Nat := none
  seen : Option Bool := none
  resendPending : Option Bool := none
  onLine : Option Bool := none
  outcome : Option ParcelOutcome := none
  copy : Option Bool := none
  held : Option Bool := none
  deriving DecidableEq, Repr

/-! ## The line (chapters 2 and 3) -/

/-- The eight parcel kinds (R48), in the order of their kind values (R212). -/
inductive Kind where
  | data
  | receipt
  | query
  | open_
  | grant
  | close
  | closeAck
  | drop
  deriving DecidableEq, Repr

/-- What a first header byte's kind code names (R47). -/
inductive KindCode where
  | named (kind : Kind)
  | unnamed
  deriving DecidableEq, Repr

/-- The control characters (R24). -/
inductive ControlChar where
  | idle
  | sop
  | eop
  | abort
  deriving DecidableEq, Repr

/-- A character as the transmitter sends it. -/
inductive LineChar where
  | data (byte : Byte)
  | control (char : ControlChar)
  deriving DecidableEq, Repr

/-- The line state (R28, R29). -/
inductive LineState where
  | up
  | down
  deriving DecidableEq, Repr

/-- *storage* of the receive parcel record (chapter 2, section 2.4). -/
inductive Storage where
  | storing
  | refused
  | unstored
  | control
  deriving DecidableEq, Repr

/-- *phase* of the receive parcel record. -/
inductive RecordPhase where
  | hunt
  | inParcel
  deriving DecidableEq, Repr

/-- The receive parcel record (chapter 2, section 2.4). `none` is "absent until it is taken". The defaults are the
record in HUNT. -/
structure RxRecord where
  phase : RecordPhase := .hunt
  /-- Data bytes taken since SOP, 0..255, saturating. -/
  count : Nat := 0
  kind : Option KindCode := none
  epoch : Option Epoch := none
  copy : Option Bool := none
  ordinal : Option Ordinal := none
  /-- The DATA *length* byte as its value 0..255 (R49). -/
  length : Option Nat := none
  cumulative : Option Ordinal := none
  gapMap : Option (BitVec 7) := none
  /-- A credit above 8 has been taken as 8 (R49). -/
  credit : Option Nat := none
  rank : Option Nat := none
  storage : Option Storage := none
  /-- The ASSEMBLING descriptor; present in STORING. -/
  descriptor : Option DescId := none
  /-- The running check (R51); FFFFh from the SOP on, absent (0) in HUNT. -/
  check : Word := 0
  deriving DecidableEq, Repr

/-- A running gap timer: REFCLK periods since its last start, and the character time (in REFCLK periods) in force
when it started (R23, R41). -/
structure GapTimer where
  elapsed : Nat
  charTime : Nat
  deriving DecidableEq, Repr

/-- The transmitter's phase: at mark after a reset (R36), FILL or PARCEL (R32). -/
inductive TxPhase where
  | mark
  | fill
  | parcel
  deriving DecidableEq, Repr

/-- The transmitter of a Line Unit (R32-R36). -/
structure Tx where
  phase : TxPhase
  /-- The character in progress (in `mark`, the character time at mark). -/
  char : LineChar
  /-- The parcel's characters still to be sent after the one in progress. -/
  rest : List LineChar
  /-- The descriptor of a DATA parcel being sent. -/
  descriptor : Option DescId
  /-- The parcel is cut short: an ABORT closes it (R35). -/
  cut : Bool
  /-- REFCLK periods passed of the character in progress. -/
  elapsed : Nat
  /-- REFCLK periods in a bit of the character in progress (R23). -/
  bitTime : Nat
  deriving DecidableEq, Repr

/-- Where the receive character recogniser stands (R25). -/
inductive RxPhase where
  /-- Waiting for a start bit: a transition of RXD from mark to space. -/
  | waiting
  /-- Inside a character: the REFCLK periods in its bit (R23), those passed since the falling edge of its start bit, and
  the samples taken, that of bit time i at position i, 1 for mark. -/
  | receiving (bitTime elapsed : Nat) (samples : BitVec 12)
  /-- No start bit is looked for until RXD has returned to mark. -/
  | waitMark
  deriving DecidableEq, Repr

/-- A space on RXD that may become a break (R27): REFCLK periods since it began, and the character time (in REFCLK
periods) in force when it began (R23). -/
structure SpaceRun where
  elapsed : Nat
  charTime : Nat
  deriving DecidableEq, Repr

/-- The receive character recogniser of a Line Unit (R25, R27). -/
structure Receiver where
  phase : RxPhase := .waiting
  /-- `none` while no space is being measured. -/
  space : Option SpaceRun := none
  /-- The character whose stop bit was sampled in the REFCLK period in which a device-wide reset was taken: the reset loses
  it, so that its row, if it still waits, does nothing (R46; log entry 22). -/
  lost : Option (BitVec 12) := none
  deriving DecidableEq, Repr

/-- A Line Unit. -/
structure LineUnit where
  divider : Nat
  /-- The gap limit in character times (R31). -/
  gapLimit : Nat
  /-- The line-loss limit in TU (R31). -/
  lossLimit : Nat
  lineState : LineState
  /-- The good-character run, 0..16 (R28). -/
  run : Nat
  /-- The line-loss timer's TU count; `none` when stopped (R29, R115). -/
  lossTimer : Option Nat
  /-- The break condition is present (R27). -/
  breakPresent : Bool
  /-- An all-space character is held undecided (R27). -/
  heldSpace : Bool
  rx : Receiver
  record : RxRecord
  /-- `none` when stopped (R41). -/
  gapTimer : Option GapTimer
  tx : Tx
  deriving DecidableEq, Repr

/-! ## The Link Engine (chapters 3 to 7) -/

/-- Session states (R62). -/
inductive SessionState where
  | closed
  | opening
  | open_
  | draining
  | closing
  deriving DecidableEq, Repr

/-- Who began the drain (R74). -/
inductive DrainOrigin where
  | host
  | peer
  deriving DecidableEq, Repr

/-- End causes (R83). -/
inductive EndCause where
  | none
  | normal
  | closeUnconfirmed
  | aborted
  | retryExhausted
  | openTimeout
  | peerDrop
  | peerRestart
  | lineLost
  deriving DecidableEq, Repr

/-- The line-loss action (R64). -/
inductive LossAction where
  | fail
  | hold
  deriving DecidableEq, Repr

/-- The eight session parameters (R64). -/
structure Params where
  /-- Retransmit base timeout in TU, 1..4,095. -/
  rto : Nat
  /-- 1..15. -/
  retryLimit : Nat
  /-- 1..8. -/
  threshold : Nat
  /-- Receipt hold time in TU, 0..255. -/
  holdTime : Nat
  /-- 0..3. -/
  rank : Nat
  accept : Bool
  reporting : Bool
  lossAction : LossAction
  deriving DecidableEq, Repr

/-- The modes in which the link timer runs (R116). -/
inductive TimerMode where
  | control
  | resend
  | query
  deriving DecidableEq, Repr

/-- A running link timer: its mode, its duration and its TU count since the last start (R116). -/
structure LinkTimer where
  mode : TimerMode
  duration : Nat
  count : Nat
  deriving DecidableEq, Repr

/-- The seven pending flags (R54). -/
structure Pending where
  drop : Bool := false
  grant : Bool := false
  closeAck : Bool := false
  open_ : Bool := false
  close : Bool := false
  receipt : Bool := false
  query : Bool := false
  deriving DecidableEq, Repr

/-- A Link Engine. -/
structure LinkEngine where
  session : SessionState
  epoch : Epoch
  drainOrigin : Option DrainOrigin
  endCause : EndCause
  /-- The programmed parameter set, in LINK TIMING and LINK MODE (R64). -/
  programmed : Params
  /-- The latched parameter set, from which the session works (R64). -/
  latched : Params
  nextOrdinal : Ordinal
  /-- The oldest unreceipted ordinal OU (R89). -/
  oldest : Ordinal
  /-- The expected ordinal E (R133). -/
  expected : Ordinal
  /-- 0..8 (R96). -/
  peerCredit : Nat
  /-- The last advertised credit, 0..8 (R136). -/
  advertised : Nat
  /-- 0..15 (R118). -/
  retryCount : Nat
  /-- The submit queue, oldest first (R87). -/
  submit : List DescId
  /-- The retention queue, in ordinal order from OU (R91). -/
  retention : List DescId
  /-- The receive window: entry i is what is held at offset i + 1, seven entries (R134). -/
  window : List (Option DescId)
  /-- DATA parcels accepted since the last receipt started, 0..8 (R135). -/
  accepted : Nat
  /-- The receipt hold timer's TU count; `none` when STOPPED (R137). -/
  holdTimer : Option Nat
  /-- `none` is STOPPED (R116). -/
  timer : Option LinkTimer
  pending : Pending
  dropEpoch : Epoch
  deriving DecidableEq, Repr

/-- What each link has: its Link Engine, its Line Unit, and its share of the pool, event and statistics units. -/
structure Link where
  le : LinkEngine
  lu : LineUnit
  /-- The guarantee G_L in blocks (R13). -/
  guarantee : Nat
  /-- LINK EVENTS (R180, R205). -/
  events : BitVec 7
  /-- LINK MASK (R187). -/
  mask : BitVec 7
  /-- The fourteen counters by counter number (R192). -/
  counters : Vector Nat 14
  /-- The half flag (R196). -/
  half : Bool
  deriving DecidableEq, Repr

/-! ## The host side (chapters 8 and 11) -/

/-- The open staging context (R159). -/
structure Staging where
  link : LinkId
  length : Nat
  tag : Byte
  descriptor : DescId
  writeCount : Nat
  deriving DecidableEq, Repr

/-- Result codes (R208). -/
inductive ResultCode where
  | done
  | busy
  | badarg
  | badstate
  | noroom
  | empty
  deriving DecidableEq, Repr

/-- The reset cause (R210). -/
inductive ResetCause where
  | pin
  | command
  deriving DecidableEq, Repr

/-- Which LINK STATUS word the next read returns (R203). -/
inductive StatusPosition where
  | first
  | second
  deriving DecidableEq, Repr

/-- A receive line as the peer drives it; a line that nothing drives rests at mark (section 11.8). -/
structure RxdLine where
  /-- The level of RXD now, mark being `true`. -/
  level : Bool := true
  /-- The model's own: the levels of the REFCLK periods to come (log entry 6). -/
  coming : List Bool := []
  deriving DecidableEq, Repr

/-- The part. -/
structure State where
  /-- The commands that wait, first in, first out. -/
  pending : List Instr
  /-- The parcel memory (R1). -/
  mem : Memory
  /-- The descriptor table (R4). -/
  descs : Vector Descriptor 64
  /-- The free descriptor list (R8). -/
  freeDescs : List DescId
  /-- The free block list (R2). -/
  freeBlocks : List BlockId
  /-- POOL WATERMARK (R18). -/
  watermark : Nat
  /-- The armed condition (R18). -/
  armed : Bool
  links : Quad Link
  /-- RXD0 to RXD3. -/
  rxd : Quad RxdLine
  /-- The staging context; `none` when closed (R159). -/
  staging : Option Staging
  /-- The delivery read pointer (R169). -/
  readPointer : Nat
  /-- The delivery queue, oldest first (R167). -/
  delivery : List DescId
  /-- The completion queue, oldest first (R173). -/
  completion : List DescId
  /-- GLOBAL EVENTS (R180, R205). -/
  globalEvents : BitVec 6
  /-- GLOBAL MASK (R187). -/
  globalMask : BitVec 6
  /-- The link number of COUNTER SELECT (R197). -/
  counterLink : LinkId
  /-- The counter number of COUNTER SELECT (R197). -/
  counterNumber : BitVec 4
  /-- Read-clears mode (R198). -/
  readClears : Bool
  /-- LINK SELECT (R202). -/
  linkSelect : LinkId
  argumentA : Word
  /-- The tag, bits 7-0 of ARGUMENT B (R207). -/
  argumentB : Byte
  resultCode : ResultCode
  /-- The last command's code (R208). -/
  resultCommand : BitVec 4
  resetCause : ResetCause
  statusPosition : StatusPosition
  /-- The held word of the LINK STATUS sequence (R203). -/
  statusHeld : Word
  /-- TIMEBASE (R114). -/
  prescale : Nat
  /-- REFCLK periods in the TU in progress (R114). -/
  tuLength : Nat
  /-- REFCLK periods passed of the TU in progress. -/
  tuElapsed : Nat
  /-- The word the part drives on D15-D0 for the read access in progress; `none` is high impedance (R201; log
  entry 10). -/
  readData : Option Word
  /-- The model's own: values taken from `Config.arrivalOrder` so far (log entry 3). -/
  freeIndex : Nat
  deriving DecidableEq, Repr

/-- Why the part stops with a fault. The spec gives the part no fault: every command has an effect or a result code in
every state. So there is no constructor, nothing raises one, and that is safe. -/
inductive Fault where
  deriving DecidableEq, Repr

/-- Why a command has no meaning. -/
inductive Refusal where
  /-- Raised by exec for a command without a meaning; no command is left without one, so nothing raises it. Safe. -/
  | notModelled (mnemonic : String)
  deriving DecidableEq, Repr

/-! ## Reset (R209) -/

/-- The default session parameters (R64). -/
def Params.reset : Params :=
  { rto := 200, retryLimit := 6, threshold := 2, holdTime := 10, rank := 0, accept := false, reporting := true,
    lossAction := .fail }

/-- The transmitter when a reset ends: mark for one character time at divider 15 (R36). -/
def Tx.reset : Tx :=
  { phase := .mark, char := .control .idle, rest := [], descriptor := none, cut := false, elapsed := 0, bitTime := 16 }

/-- A Line Unit after reset (R23, R28, R29, R31, R46). -/
def LineUnit.reset : LineUnit :=
  { divider := 15, gapLimit := 8, lossLimit := 500, lineState := .down, run := 0, lossTimer := none,
    breakPresent := false, heldSpace := false, rx := {}, record := {}, gapTimer := none, tx := Tx.reset }

/-- An empty receive window: nothing at the offsets 1..7 (R134). -/
def emptyWindow : List (Option DescId) := List.replicate 7 none

/-- A Link Engine after reset (R86, R112, R132, R158). -/
def LinkEngine.reset : LinkEngine :=
  { session := .closed, epoch := 0, drainOrigin := none, endCause := .none, programmed := Params.reset,
    latched := Params.reset, nextOrdinal := 0, oldest := 0, expected := 0, peerCredit := 0, advertised := 0,
    retryCount := 0, submit := [], retention := [], window := emptyWindow, accepted := 0, holdTimer := none,
    timer := none, pending := {}, dropEpoch := 0 }

/-- A link after reset (R20, R86, R191, R200). -/
def Link.reset : Link :=
  { le := LinkEngine.reset, lu := LineUnit.reset, guarantee := 0, events := 0, mask := 0,
    counters := Vector.replicate 14 0, half := false }

/-- The part right after a pin reset (R209), with no command waiting. -/
def State.reset : State :=
  { pending := [], mem := [], descs := Vector.replicate 64 {}, freeDescs := List.finRange 64,
    freeBlocks := List.finRange 128, watermark := 16, armed := true, links := Quad.const Link.reset, rxd := Quad.const {},
    staging := none, readPointer := 0, delivery := [], completion := [], globalEvents := 0, globalMask := 0, counterLink := 0,
    counterNumber := 0, readClears := false, linkSelect := 0, argumentA := 0, argumentB := 0, resultCode := .done,
    resultCommand := 0, resetCause := .pin, statusPosition := .first, statusHeld := 0, prescale := 1600,
    tuLength := 1600, tuElapsed := 0, readData := none, freeIndex := 0 }

end Sys2Proof.Machine
end

