-- ==== Sys2Proof/Machine/Access.lean ====
section
/-! DEFINITION. The one way to read and write each home of state: a link's units, a descriptor, parcel memory. -/

namespace Sys2Proof.Machine

/-! ## Links -/

/-- Everything of link `n`. -/
def State.link (s : State) (n : LinkId) : Link := s.links.get n

/-- The Link Engine of link `n`. -/
def State.le (s : State) (n : LinkId) : LinkEngine := (s.link n).le

/-- The Line Unit of link `n`. -/
def State.lu (s : State) (n : LinkId) : LineUnit := (s.link n).lu

/-- Link `n` changed by `f`. -/
def State.modLink (n : LinkId) (f : Link → Link) (s : State) : State :=
  { s with links := s.links.set n (f (s.links.get n)) }

/-- Link `n`'s Link Engine changed by `f`. -/
def State.modLE (n : LinkId) (f : LinkEngine → LinkEngine) (s : State) : State :=
  s.modLink n fun l => { l with le := f l.le }

/-- Link `n`'s Line Unit changed by `f`. -/
def State.modLU (n : LinkId) (f : LineUnit → LineUnit) (s : State) : State :=
  s.modLink n fun l => { l with lu := f l.lu }

/-- Link `n`'s transmitter changed by `f`. -/
def State.modTx (n : LinkId) (f : Tx → Tx) (s : State) : State :=
  s.modLU n fun u => { u with tx := f u.tx }

/-- The four links. -/
def allLinks : List LinkId := [0, 1, 2, 3]

/-- The link that a command word's 4-bit link number names; `none` for 4..15 (R206). -/
def linkOf (number : BitVec 4) : Option LinkId :=
  if h : number.toNat < 4 then some ⟨number.toNat, h⟩ else none

/-! ## Descriptors -/

/-- Descriptor `d`. -/
def State.desc (s : State) (d : DescId) : Descriptor := s.descs.get d

/-- Descriptor `d` replaced. -/
def State.setDesc (d : DescId) (r : Descriptor) (s : State) : State :=
  { s with descs := s.descs.set d r }

/-- Descriptor `d` changed by `f`. A FREE descriptor has no field that a block may act on (R4, R7), so it stays as it
is (log entry 13). -/
def State.modDesc (d : DescId) (f : Descriptor → Descriptor) (s : State) : State :=
  if (s.desc d).state = .free then s else s.setDesc d (f (s.desc d))

/-- The given descriptors in ascending index order, the order in which the PPC takes the releases of one event (R15). -/
def ascending (ds : List DescId) : List DescId := (List.finRange 64).filter (ds.contains ·)

/-- The descriptors of which `p` holds, in ascending index order. -/
def State.descsWhere (s : State) (p : Descriptor → Bool) : List DescId :=
  (List.finRange 64).filter fun d => p (s.desc d)

/-- Link `n` holds a DETACHED descriptor (R5, R113). -/
def State.hasDetached (s : State) (n : LinkId) : Bool :=
  s.descs.toList.any fun r => r.state == .detached && r.link == some n

/-- A RETAINED descriptor's copy is being transmitted (R92). -/
def State.isOnLine (s : State) (d : DescId) : Bool := (s.desc d).onLine == some true

/-! ## Parcel memory (R1) -/

/-- The byte at an address; an unlisted address reads as `Config.unwrittenByte`. -/
def Memory.read (m : Memory) (a : Nat) : Byte :=
  match m with
  | [] => Config.unwrittenByte
  | (k, v) :: rest => if k = a then v else Memory.read rest a

/-- A list's head cell, unless it would list what an unlisted address reads as. -/
def Memory.cell (a : Nat) (v : Byte) (rest : Memory) : Memory :=
  if v = Config.unwrittenByte then rest else (a, v) :: rest

/-- The byte `v` written at address `a`, keeping the canonical form. -/
def Memory.write (m : Memory) (a : Nat) (v : Byte) : Memory :=
  match m with
  | [] => Memory.cell a v []
  | (k, x) :: rest =>
    if a < k then Memory.cell a v ((k, x) :: rest)
    else if k = a then Memory.cell a v rest
    else (k, x) :: Memory.write rest a v

/-- The canonical form: addresses strictly rising and inside the 8 KiB, and no entry that says what an unlisted address
reads as. -/
abbrev Memory.wf (m : Memory) : Prop :=
  m.Pairwise (fun a b => a.1 < b.1) ∧ (∀ c ∈ m, c.2 ≠ Config.unwrittenByte) ∧ ∀ c ∈ m, c.1 < Config.memoryBytes

/-- The address of payload byte `i` of a parcel stored in `blocks`: the block at position i / 64, byte i mod 64 (R1).
`none` where the list has no such block, which a parcel's own bytes never meet. -/
def payloadAddress (blocks : List BlockId) (i : Nat) : Option Nat :=
  match blocks[i / Config.blockBytes]? with
  | some b => some (b.val * Config.blockBytes + i % Config.blockBytes)
  | none => none

/-- Payload byte `i` of descriptor `d`. -/
def State.readPayload (s : State) (d : DescId) (i : Nat) : Byte :=
  match payloadAddress (s.desc d).blocks i with
  | some a => s.mem.read a
  | none => Config.unwrittenByte

/-- Payload byte `i` of descriptor `d` written. -/
def State.writePayload (d : DescId) (i : Nat) (v : Byte) (s : State) : State :=
  match payloadAddress (s.desc d).blocks i with
  | some a => { s with mem := s.mem.write a v }
  | none => s

/-- Blocks that a parcel of `n` bytes occupies, ceil(n/64) (R1). -/
def blocksFor (n : Nat) : Nat := (n + (Config.blockBytes - 1)) / Config.blockBytes

end Sys2Proof.Machine
end

