-- ==== Sys2Proof/Machine/Flags.lean ====
section
/-! DEFINITION. Every flag computation: event flags, masks, /INT and EVENT SUMMARY (chapter 9), pending flags (R54,
R55), the result word (R208) and the counters with their half flags (chapter 10). -/

namespace Sys2Proof.Machine

/-! ## Event flags (chapter 9) -/

/-- Global flags, in the bit order of GLOBAL EVENTS (R205). -/
inductive GlobalEvent where
  | deliveryReady
  | completionReady
  | poolLow
  | counterHalf
  | stageOverrun
  | readOverrun
  deriving DecidableEq, Repr

/-- Per-link flags, in the bit order of LINK EVENTS (R205). -/
inductive LinkEvent where
  | opened
  | closed
  | failed
  | peerClosing
  | rankClash
  | lineUp
  | lineDown
  deriving DecidableEq, Repr

/-- The flag's bit in GLOBAL EVENTS and GLOBAL MASK (R205). -/
def GlobalEvent.bit : GlobalEvent → BitVec 6
  | .deliveryReady => 0x01
  | .completionReady => 0x02
  | .poolLow => 0x04
  | .counterHalf => 0x08
  | .stageOverrun => 0x10
  | .readOverrun => 0x20

/-- The flag's bit in LINK EVENTS and LINK MASK (R205). -/
def LinkEvent.bit : LinkEvent → BitVec 7
  | .opened => 0x01
  | .closed => 0x02
  | .failed => 0x04
  | .peerClosing => 0x08
  | .rankClash => 0x10
  | .lineUp => 0x20
  | .lineDown => 0x40

/-- The global flag is Set. -/
def State.globalSet (s : State) (e : GlobalEvent) : Bool := s.globalEvents &&& e.bit != 0

/-- Link `n`'s flag is Set. -/
def State.linkEventSet (s : State) (n : LinkId) (e : LinkEvent) : Bool := (s.link n).events &&& e.bit != 0

/-- A global event Sets its flag (R180). -/
def State.setGlobal (e : GlobalEvent) (s : State) : State :=
  { s with globalEvents := s.globalEvents ||| e.bit }

/-- A link event Sets its flag (R180). -/
def State.setEvent (n : LinkId) (e : LinkEvent) (s : State) : State :=
  s.modLink n fun l => { l with events := l.events ||| e.bit }

/-- A write of 1s Clears the chosen global flags (R181). -/
def State.clearGlobal (ones : BitVec 6) (s : State) : State :=
  { s with globalEvents := s.globalEvents &&& ~~~ones }

/-- A write of 1s Clears the chosen flags of link `n` (R181). -/
def State.clearEvents (n : LinkId) (ones : BitVec 7) (s : State) : State :=
  s.modLink n fun l => { l with events := l.events &&& ~~~ones }

/-- Link `n` has an enabled Set flag (R189). -/
def State.linkSummary (s : State) (n : LinkId) : Bool := (s.link n).events &&& (s.link n).mask != 0

/-- The global set has an enabled Set flag (R189). -/
def State.globalSummary (s : State) : Bool := s.globalEvents &&& s.globalMask != 0

/-- /INT is asserted (R188). -/
def State.intAsserted (s : State) : Bool := s.globalSummary || allLinks.any s.linkSummary

/-! ## Pending flags (R54, R55) -/

/-- A receipt is made pending on link `n`. -/
def State.makeReceipt (n : LinkId) (s : State) : State :=
  s.modLE n fun e => { e with pending := { e.pending with receipt := true } }

/-- A DROP is made pending with an epoch: a flag already Set keeps the epoch recorded with it (R54). -/
def LinkEngine.makeDrop (epoch : Epoch) (e : LinkEngine) : LinkEngine :=
  if e.pending.drop then e
  else { e with pending := { e.pending with drop := true }, dropEpoch := epoch }

/-- A DROP is made pending on link `n`. -/
def State.makeDrop (n : LinkId) (epoch : Epoch) (s : State) : State := s.modLE n (LinkEngine.makeDrop epoch)

/-! ## Results (R208) -/

/-- The result word takes a command's code and its result. -/
def State.setResult (command : BitVec 4) (r : ResultCode) (s : State) : State :=
  { s with resultCommand := command, resultCode := r }

/-- A result code's value (R208). -/
def ResultCode.value : ResultCode → Nat
  | .done => 0
  | .busy => 1
  | .badarg => 2
  | .badstate => 3
  | .noroom => 4
  | .empty => 5

/-! ## Counters (chapter 10) -/

/-- The fourteen counters, in the order of their numbers (R192). -/
inductive Counter where
  | dataSent
  | dataResent
  | dataDelivered
  | rcptSent
  | rcptTaken
  | badRcpt
  | timerExpiry
  | charFaults
  | dropLine
  | dropFormat
  | dropNomem
  | dropSession
  | dropDup
  | dropOutwin
  deriving DecidableEq, Repr

/-- The counter's number (R192). -/
def Counter.number : Counter → Fin 14
  | .dataSent => 0
  | .dataResent => 1
  | .dataDelivered => 2
  | .rcptSent => 3
  | .rcptTaken => 4
  | .badRcpt => 5
  | .timerExpiry => 6
  | .charFaults => 7
  | .dropLine => 8
  | .dropFormat => 9
  | .dropNomem => 10
  | .dropSession => 11
  | .dropDup => 12
  | .dropOutwin => 13

/-- Counter `c` of link `n`. -/
def State.counter (s : State) (n : LinkId) (c : Counter) : Nat := (s.link n).counters.get c.number

/-- One occurrence: the counter rises by 1 unless it stands at 65,535 (R192, R196). -/
def State.bump (n : LinkId) (c : Counter) (s : State) : State :=
  s.modLink n fun l =>
    { l with counters := l.counters.set c.number (min 65535 (l.counters.get c.number + 1)) }

/-- The link's half flag is Set. -/
def State.setHalf (n : LinkId) (s : State) : State := s.modLink n fun l => { l with half := true }

/-- One occurrence is counted; a counter that passes from 32,767 to 32,768 Sets the link's half flag and COUNTER_HALF
(R196). -/
def State.count (n : LinkId) (c : Counter) (s : State) : State :=
  if s.counter n c = 32767 then ((s.bump n c).setHalf n).setGlobal .counterHalf else s.bump n c

/-- The reasons a received parcel is discarded (R40, R42, R52, R99, R141, R142). -/
inductive DropCause where
  | charFault
  | truncated
  | gap
  | aborted
  | badKind
  | badLen
  | check
  | nomem
  | stale
  | noSession
  | dup
  | outwin
  deriving DecidableEq, Repr

/-- The counter that a drop cause raises (R192). -/
def DropCause.counter : DropCause → Counter
  | .charFault | .truncated | .gap | .aborted => .dropLine
  | .badKind | .badLen | .check => .dropFormat
  | .nomem => .dropNomem
  | .stale | .noSession => .dropSession
  | .dup => .dropDup
  | .outwin => .dropOutwin

/-- A drop of a received parcel is reported to the Statistics Unit (R195). -/
def State.reportDrop (n : LinkId) (cause : DropCause) (s : State) : State := s.count n cause.counter

end Sys2Proof.Machine
end

