-- ==== Sys2Proof/Machine/Operands.lean ====
section
/-! DEFINITION. Every form an operand has: the character on the line (R22, R24-R26, R211), the check sequence (R50),
parcel headers both ways (R47-R49, R212), and the clamping of written values (R19, R23, R31, R64, R114). -/

namespace Sys2Proof.Machine

/-! ## Characters -/

/-- A control character's code (R24). -/
def ControlChar.code : ControlChar → Byte
  | .idle => 0xA5
  | .sop => 0x5A
  | .eop => 0x96
  | .abort => 0x69

/-- The control character of a code, if it is assigned (R24). -/
def controlOf (code : Byte) : Option ControlChar :=
  if code = 0xA5 then some .idle
  else if code = 0x5A then some .sop
  else if code = 0x96 then some .eop
  else if code = 0x69 then some .abort
  else none

/-- The exclusive-or of the low nine bits: Set when the count of 1s among them is odd. -/
def oddOnes (nine : BitVec 9) : Bool :=
  (List.range 9).foldl (fun p i => p != nine.getLsbD i) false

/-- The data and class bits of a character, class bit at position 8 (R211). -/
def LineChar.nine : LineChar → BitVec 9
  | .data b => b.zeroExtend 9
  | .control c => c.code.zeroExtend 9 ||| 0x100

/-- The twelve bit times of a character, bit time i at position i: start 0, data and class, odd parity, stop 1
(R22, R211). -/
def LineChar.encode (c : LineChar) : BitVec 12 :=
  let parity : BitVec 12 := if oddOnes c.nine then 0 else 0x400
  (c.nine.zeroExtend 12 <<< 1) ||| parity ||| 0x800

/-- What a recognised character is (R26). -/
inductive CharOutcome where
  | faulted
  | good (char : LineChar)
  deriving DecidableEq, Repr

/-- The sample of the start bit is at mark: a false start (R25). -/
def falseStart (samples : BitVec 12) : Bool := samples.getLsbD 0

/-- Data, class, parity and stop bits all at space: held undecided (R27). -/
def allSpace (samples : BitVec 12) : Bool := samples == 0

/-- The outcome of a recognised character, the tests in the order of R26. -/
def classify (samples : BitVec 12) : CharOutcome :=
  let code : Byte := samples.extractLsb' 1 8
  let nine : BitVec 9 := samples.extractLsb' 1 9
  if !samples.getLsbD 11 then .faulted
  else if oddOnes nine == samples.getLsbD 10 then .faulted
  else if samples.getLsbD 9 then
    match controlOf code with
    | some c => .good (.control c)
    | none => .faulted
  else .good (.data code)

/-! ## The check sequence (R50) -/

/-- One bit fed into the check register. -/
def checkBit (r : Word) (b : Bool) : Word :=
  if r.getLsbD 0 != b then (r >>> 1) ^^^ 0x8408 else r >>> 1

/-- One byte fed into the check register, least significant bit first. -/
def checkByte (r : Word) (byte : Byte) : Word :=
  (List.range 8).foldl (fun r i => checkBit r (byte.getLsbD i)) r

/-- The check register after the bytes of a parcel, from FFFFh at its SOP. -/
def checkOf (bytes : List Byte) : Word := bytes.foldl checkByte 0xFFFF

/-- The two check bytes, low half first. -/
def checkBytes (r : Word) : List Byte := [r.extractLsb' 0 8, r.extractLsb' 8 8]

/-! ## Headers -/

/-- A kind's value in a first header byte (R212). -/
def Kind.value : Kind → BitVec 3
  | .data => 0
  | .receipt => 1
  | .query => 2
  | .open_ => 3
  | .grant => 4
  | .close => 5
  | .closeAck => 6
  | .drop => 7

/-- The kind of a kind value. -/
def kindOfValue (v : BitVec 3) : Kind :=
  match v.toNat with
  | 0 => .data
  | 1 => .receipt
  | 2 => .query
  | 3 => .open_
  | 4 => .grant
  | 5 => .close
  | 6 => .closeAck
  | _ => .drop

/-- Header bytes, the first one counted (R48). -/
def Kind.headerLength : Kind → Nat
  | .data => 3
  | .receipt => 4
  | .query => 1
  | .open_ => 2
  | .grant => 2
  | .close => 1
  | .closeAck => 1
  | .drop => 1

/-- The first header byte: kind in bits 2-0, flag in bit 3, epoch in bits 7-4 (R47, R212). -/
def firstByte (k : Kind) (flag : Bool) (epoch : Epoch) : Byte :=
  epoch ++ BitVec.ofBool flag ++ k.value

/-- What a first header byte's kind code names: a control kind with the flag Set names no kind (R47). -/
def kindCode (b : Byte) : KindCode :=
  let k := kindOfValue (b.extractLsb' 0 3)
  if b.getLsbD 3 && k != .data then .unnamed else .named k

/-- A credit value above 8 is taken as 8 (R49). -/
def takeCredit (v : Nat) : Nat := min 8 v

/-- A DATA header (R48, R212). -/
def dataHeader (copy : Bool) (epoch : Epoch) (ordinal : Ordinal) (length : Nat) : List Byte :=
  [firstByte .data copy epoch, ordinal.zeroExtend 8, BitVec.ofNat 8 length]

/-- A RECEIPT header (R48, R61, R212). -/
def receiptHeader (epoch : Epoch) (cumulative : Ordinal) (gapMap : BitVec 7) (credit : Nat) : List Byte :=
  [firstByte .receipt false epoch, cumulative.zeroExtend 8, gapMap.zeroExtend 8, BitVec.ofNat 8 credit]

/-- An OPEN header: credit in bits 3-0 and rank in bits 5-4 of byte 1 (R59, R212). -/
def openHeader (epoch : Epoch) (rank credit : Nat) : List Byte :=
  [firstByte .open_ false epoch, BitVec.ofNat 8 (credit % 16 + 16 * (rank % 4))]

/-- A GRANT header (R59, R212). -/
def grantHeader (epoch : Epoch) (credit : Nat) : List Byte :=
  [firstByte .grant false epoch, BitVec.ofNat 8 credit]

/-- The header of a QUERY, CLOSE, CLOSE-ACK or DROP (R60, R212). -/
def plainHeader (k : Kind) (epoch : Epoch) : List Byte := [firstByte k false epoch]

/-- A whole parcel after its SOP: header and payload bytes, the two check bytes, EOP (R33, R50). -/
def parcelChars (bytes : List Byte) : List LineChar :=
  (bytes ++ checkBytes (checkOf bytes)).map .data ++ [.control .eop]

/-- The record takes data byte number `i` (from 0) of a parcel as the header byte it is, if it is one (R38, R49). -/
def RxRecord.takeHeader (r : RxRecord) (i : Nat) (b : Byte) : RxRecord :=
  if i = 0 then
    { r with kind := some (kindCode b), epoch := some (b.extractLsb' 4 4), copy := some (b.getLsbD 3) }
  else
    match r.kind, i with
    | some (.named .data), 1 => { r with ordinal := some (b.extractLsb' 0 6) }
    | some (.named .data), 2 => { r with length := some b.toNat }
    | some (.named .receipt), 1 => { r with cumulative := some (b.extractLsb' 0 6) }
    | some (.named .receipt), 2 => { r with gapMap := some (b.extractLsb' 0 7) }
    | some (.named .receipt), 3 => { r with credit := some (takeCredit b.toNat) }
    | some (.named .open_), 1 =>
      { r with credit := some (takeCredit (b.extractLsb' 0 4).toNat), rank := some (b.extractLsb' 4 2).toNat }
    | some (.named .grant), 1 => { r with credit := some (takeCredit b.toNat) }
    | _, _ => r

/-- A DATA *length* in its range (R39, R52). -/
def lengthInRange (n : Nat) : Bool := 1 ≤ n && n ≤ Config.maxLength

/-- The data bytes a parcel must have between SOP and EOP; `none` where its header does not say (R48, R52). -/
def RxRecord.requiredCount (r : RxRecord) : Option Nat :=
  match r.kind with
  | some (.named .data) =>
    match r.length with
    | some n => if lengthInRange n then some (3 + n + 2) else none
    | none => none
  | some (.named k) => some (k.headerLength + 2)
  | _ => none

/-- The first format check that fails, in the order BADKIND, BADLEN, CHECK (R52). -/
def RxRecord.formatFault (r : RxRecord) : Option DropCause :=
  if r.kind = some .unnamed then some .badKind
  else if r.requiredCount ≠ some r.count then some .badLen
  else if r.check ≠ 0 then some .check
  else none

/-! ## Written values -/

/-- A value stored clamped into lo..hi. -/
def clamp (lo hi v : Nat) : Nat := max lo (min hi v)

/-- LINK TIMING word 0 (R64). -/
def Params.writeTiming0 (w : Word) (p : Params) : Params := { p with rto := clamp 1 4095 w.toNat }

/-- LINK TIMING word 1: retry limit, receipt threshold, receipt hold time (R64, R205). -/
def Params.writeTiming1 (w : Word) (p : Params) : Params :=
  { p with
    retryLimit := clamp 1 15 (w.extractLsb' 0 4).toNat
    threshold := clamp 1 8 (w.extractLsb' 4 4).toNat
    holdTime := (w.extractLsb' 8 8).toNat }

/-- LINK MODE: rank, accept enable, completion reporting, line-loss action (R64, R205). -/
def Params.writeMode (w : Word) (p : Params) : Params :=
  { p with
    rank := (w.extractLsb' 0 2).toNat
    accept := w.getLsbD 2
    reporting := w.getLsbD 3
    lossAction := if w.getLsbD 4 then .hold else .fail }

end Sys2Proof.Machine
end

