-- ==== Sys2Proof/Machine/Ops.lean ====
section
/-! DEFINITION. The named operations that the commands share: claims and releases (chapter 1), credit (R152), the link
timer (R116-R118), completion (R16), the transmitter (R32-R36), session start and session end (R65, R80) and the
drain test (R74). -/

namespace Sys2Proof.Machine

/-! ## Session states -/

/-- OPEN, DRAINING or CLOSING: the states in which a link has a live session (R17, R39, R84). -/
def SessionState.live : SessionState → Bool
  | .open_ | .draining | .closing => true
  | .closed | .opening => false

/-- OPEN or DRAINING: the states in which DATA is sent (R57). -/
def SessionState.sending : SessionState → Bool
  | .open_ | .draining => true
  | .closed | .opening | .closing => false

/-- OPENING or OPEN: the states in which the host may stage and commit (R160, R163). -/
def SessionState.staging : SessionState → Bool
  | .opening | .open_ => true
  | .closed | .draining | .closing => false

/-- LINKn_UP# is driven low (R84). -/
def State.linkUp (s : State) (n : LinkId) : Bool := (s.le n).session.live

/-! ## The pool (chapter 1) -/

/-- used_L: the blocks of the link's descriptors that are neither FREE nor COMPLETED (R12). -/
def State.used (s : State) (n : LinkId) : Nat :=
  ((s.descs.toList.filter fun r => r.link == some n && r.state != .free && r.state != .completed).map
    (·.blocks.length)).sum

/-- A link's outstanding reserve, max(0, G - used) (R10). -/
def State.reserve (s : State) (n : LinkId) : Nat := (s.link n).guarantee - s.used n

/-- The outstanding reserves of the links other than `n` (R10). -/
def State.othersReserve (s : State) (n : LinkId) : Nat :=
  ((allLinks.filter (· != n)).map s.reserve).sum

/-- The grantable blocks for a link, floored at 0 (R14). -/
def State.grantableBlocks (s : State) (n : LinkId) : Nat := s.freeBlocks.length - s.othersReserve n

/-- The grantable descriptors, the same for every link (R14). -/
def State.grantableDescs (s : State) : Nat := s.freeDescs.length

/-- A link's HELD count (R134). -/
def LinkEngine.heldCount (e : LinkEngine) : Nat := e.window.countP (·.isSome)

/-- The credit that a link would advertise now: min(8, h + min(D, floor(B / 4))) (R152). -/
def State.credit (s : State) (n : LinkId) : Nat :=
  min 8 ((s.le n).heldCount + min s.grantableDescs (s.grantableBlocks n / 4))

/-- A window update is due on a link: a live session, last advertised credit 0, a credit above 0 now (R17). -/
def State.updateDue (s : State) (n : LinkId) : Bool :=
  (s.le n).session.live && (s.le n).advertised == 0 && decide (0 < s.credit n)

/-- A receipt is made pending on this link. -/
def Link.makeReceipt (l : Link) : Link :=
  { l with le := { l.le with pending := { l.le.pending with receipt := true } } }

/-- Every link re-evaluates its credit (R17). -/
def State.reevaluate (s : State) : State :=
  { s with links := s.links.map fun n l => if s.updateDue n then l.makeReceipt else l }

/-- The armed condition and POOL_LOW after a claim (R18). -/
def State.afterClaim (s : State) : State :=
  if s.freeBlocks.length < s.watermark ∧ s.armed = true then { s with armed := false }.setGlobal .poolLow else s

/-- The armed condition after a release (R18). -/
def State.rearm (s : State) : State :=
  if s.watermark ≤ s.freeBlocks.length then { s with armed := true } else s

/-- The PPC grants a claim of link `n` for `len` bytes (R9, R10). -/
def State.claimGranted (s : State) (n : LinkId) (len : Nat) : Bool :=
  !s.freeDescs.isEmpty && decide (blocksFor len + s.othersReserve n ≤ s.freeBlocks.length)

/-- A claim of link `n` for `len` bytes: a granted one takes the head of the free descriptor list and the first blocks
of the free block list, and fills the descriptor with `fill` (R2, R6, R8, R9); a refused one answers `none`. -/
def State.claim (n : LinkId) (len : Nat) (fill : Descriptor) (s : State) : Option (DescId × State) :=
  match s.freeDescs with
  | [] => none
  | d :: rest =>
    if s.claimGranted n len then
      some (d, ({ s with freeDescs := rest, freeBlocks := s.freeBlocks.drop (blocksFor len) }.setDesc d
        { fill with blocks := s.freeBlocks.take (blocksFor len) }).afterClaim)
    else none

/-- A release of a descriptor to FREE with its blocks (R2, R7, R8, R15), the re-arming of R18 and the re-evaluation of
R17. -/
def State.releaseToFree (d : DescId) (s : State) : State :=
  if (s.desc d).state = .free then s
  else
    ({ s with freeBlocks := s.freeBlocks ++ (s.desc d).blocks, freeDescs := s.freeDescs ++ [d] }.setDesc d
      {}).rearm.reevaluate

/-- The release of a completing descriptor's blocks, the descriptor staying off the free list (R16). -/
def State.releaseBlocks (d : DescId) (s : State) : State :=
  if (s.desc d).state = .free then s
  else
    ({ s with freeBlocks := s.freeBlocks ++ (s.desc d).blocks }.setDesc d
      { s.desc d with blocks := [] }).rearm.reevaluate

/-! ## Completion (R16) -/

/-- An outbound descriptor's *outcome* is written. -/
def State.setOutcome (o : ParcelOutcome) (d : DescId) (s : State) : State :=
  s.modDesc d fun r => { r with outcome := some o }

/-- The storage side of a completion: with reporting on the blocks are released, with it off the descriptor too (R16). -/
def State.settle (reporting : Bool) (d : DescId) (s : State) : State :=
  if reporting then s.releaseBlocks d else s.releaseToFree d

/-- The record side of a completion: the descriptor becomes COMPLETED and joins the completion queue (R16, R173). Its
blocks have been released by then, and no copy of it is on the line. -/
def State.appendCompletion (d : DescId) (s : State) : State :=
  if (s.desc d).state = .free then s
  else
    ({ s with completion := s.completion ++ [d] }.setDesc d
      { s.desc d with state := .completed, onLine := some false }).setGlobal .completionReady

/-- Outbound descriptors complete in one event: releases in ascending descriptor index, records in the order given
(R15, R16, R102). -/
def State.completeAll (reporting : Bool) (ds : List DescId) (s : State) : State :=
  let released := (ascending ds).foldl (fun s d => s.settle reporting d) s
  if reporting then ds.foldl (fun s d => s.appendCompletion d) released else released

/-- A DETACHED descriptor's transmission has ended: DISCARD is freed, any other outcome completes (R16). -/
def State.completeDetached (n : LinkId) (d : DescId) (s : State) : State :=
  if (s.desc d).outcome = some .discard then s.releaseToFree d
  else s.completeAll (s.le n).latched.reporting [d]

/-- A RETAINED descriptor on the line becomes DETACHED (R21, R80, R103). -/
def State.detach (o : ParcelOutcome) (d : DescId) (s : State) : State :=
  s.modDesc d fun r => { r with state := .detached, outcome := some o }

/-! ## The link timer (R116, R117) -/

/-- RTO × 2^min(retry count, 3) TU (R117). -/
def LinkEngine.timerDuration (e : LinkEngine) : Nat := e.latched.rto * 2 ^ min e.retryCount 3

/-- The link timer started in a mode. -/
def LinkEngine.startTimer (mode : TimerMode) (e : LinkEngine) : LinkEngine :=
  { e with timer := some { mode := mode, duration := e.timerDuration, count := 0 } }

/-- The link timer restarted in its mode. -/
def LinkEngine.restartTimer (e : LinkEngine) : LinkEngine :=
  match e.timer with
  | some t => e.startTimer t.mode
  | none => e

/-- The link timer stopped. -/
def LinkEngine.stopTimer (e : LinkEngine) : LinkEngine := { e with timer := none }

/-- The mode the link timer runs in; `none` when STOPPED. -/
def LinkEngine.timerMode (e : LinkEngine) : Option TimerMode := e.timer.map (·.mode)

/-- The link timer's count has reached its duration: its expiry is due (R115). -/
def LinkTimer.over (t : LinkTimer) : Bool := decide (t.duration ≤ t.count)

/-- The receipt hold timer runs and has reached the latched hold time: its expiry is due (R115, R137). -/
def LinkEngine.holdOver (e : LinkEngine) : Bool := e.holdTimer.any (e.latched.holdTime ≤ ·)

/-- A valid receipt taken first leaves an expiry that is due at the same moment not to occur, while the timer runs on: the
expiry falls at the next TU boundary (R126, R131; log entry 25). -/
def LinkTimer.holdOff (t : LinkTimer) : LinkTimer := { t with count := min t.count (t.duration - 1) }

/-- The link timer runs on, held off an expiry that is due. -/
def LinkEngine.holdOffTimer (e : LinkEngine) : LinkEngine := { e with timer := e.timer.map LinkTimer.holdOff }

/-- The query condition (R128). -/
def LinkEngine.queryCondition (e : LinkEngine) : Bool :=
  e.session.sending && e.retention.isEmpty && !e.submit.isEmpty && e.peerCredit == 0

/-- Where the query condition holds and the timer is STOPPED, QUERY mode starts (R128). -/
def LinkEngine.queryTest (e : LinkEngine) : LinkEngine :=
  if e.queryCondition && e.timer.isNone then e.startTimer .query else e

/-! ## The transmitter (R32-R36) -/

/-- A Line Unit's transmitter in FILL with an IDLE starting at the present divider (R23, R32). -/
def LineUnit.toFill (u : LineUnit) : LineUnit :=
  { u with tx := { phase := .fill, char := .control .idle, rest := [], descriptor := none, cut := false, elapsed := 0,
                   bitTime := u.divider + 1 } }

/-- A parcel starts on the line: SOP now, then its bytes, its check bytes and EOP (R32, R33). -/
def LineUnit.sendParcel (bytes : List Byte) (d : Option DescId) (u : LineUnit) : LineUnit :=
  { u with tx := { phase := .parcel, char := .control .sop, rest := parcelChars bytes, descriptor := d, cut := false,
                   elapsed := 0, bitTime := u.divider + 1 } }

/-- A parcel in progress is cut short: ABORT follows the character in progress, unless that is its EOP (R35). -/
def Tx.cutShort (t : Tx) : Tx :=
  if t.phase = .parcel ∧ t.cut = false ∧ t.char ≠ .control .eop then
    { t with rest := [.control .abort], cut := true }
  else t

/-- What a session end does to a parcel in progress: DATA is cut short, a control parcel is not (R35). -/
def Tx.sessionEnd (t : Tx) : Tx := if t.descriptor.isSome then t.cutShort else t

/-- The mark after a reset has been held for one character time (R36). -/
def Tx.markOver (t : Tx) : Bool := decide (t.phase = .mark ∧ Config.charBits * t.bitTime ≤ t.elapsed)

/-- The level of TXD: mark is `true` (R22, R32, R36). -/
def Tx.level (t : Tx) : Bool :=
  match t.phase with
  | .mark => true
  | .fill | .parcel => t.char.encode.getLsbD (t.elapsed / t.bitTime)

/-! ## Session end (R80) -/

/-- The CLOSED or FAILED event of an end cause (R82). -/
def EndCause.event : EndCause → LinkEvent
  | .none | .normal | .closeUnconfirmed | .aborted => .closed
  | .retryExhausted | .openTimeout | .peerDrop | .peerRestart | .lineLost => .failed

/-- The flags among DROP, CLOSE-ACK and GRANT that the ending event itself makes pending (R80). -/
structure Keep where
  drop : Bool := false
  closeAck : Bool := false
  grant : Bool := false
  deriving DecidableEq, Repr

/-- The pending flags after a session end (R80). -/
def Pending.sessionEnd (keep : Keep) (p : Pending) : Pending :=
  { drop := p.drop && keep.drop, closeAck := p.closeAck && keep.closeAck, grant := p.grant && keep.grant }

/-- The Link Engine after a session end, but for its descriptors (R80). -/
def LinkEngine.sessionEnd (cause : EndCause) (keep : Keep) (e : LinkEngine) : LinkEngine :=
  { e with
    session := .closed
    timer := none
    holdTimer := none
    retryCount := 0
    submit := []
    retention := []
    window := emptyWindow
    accepted := 0
    drainOrigin := none
    pending := e.pending.sessionEnd keep
    endCause := cause }

/-- The receive record when its link's session ends or its link is reset: nothing more is stored (R44, R45). The storage of a
control parcel stays CONTROL, and at its EOP such a parcel is handed over like any other (R42): the model's reading, where
R45 says that the parcel is dropped (log entry 27). -/
def RxRecord.withdrawStorage (r : RxRecord) : RxRecord :=
  { r with
    descriptor := none
    storage := if r.storage = some .storing ∨ r.storage = some .refused then some .unstored else r.storage }

/-- The Line Unit's side of a session end (R35, R44). -/
def LineUnit.sessionEnd (u : LineUnit) : LineUnit :=
  { u with record := u.record.withdrawStorage, tx := u.tx.sessionEnd }

/-- The session-end cleanup of link `n`, with the event of its end cause (R80, R82). The link is CLOSED while its
descriptors are released, so the re-evaluation of R17 acts on the other links (log entry 20). -/
def State.endSession (n : LinkId) (cause : EndCause) (keep : Keep) (s : State) : State :=
  let e := s.le n
  let reporting := e.latched.reporting
  let onLine := e.retention.filter s.isOnLine
  let leaving := e.retention.filter (fun d => !s.isOnLine d) ++ e.submit
  let freed := e.window.filterMap id ++ (s.lu n).record.descriptor.toList
  let ended := (s.modLE n (LinkEngine.sessionEnd cause keep)).modLU n LineUnit.sessionEnd
  let marked := leaving.foldl (fun s d => s.setOutcome .abandoned d) ended
  let detached := onLine.foldl (fun s d => s.detach .abandoned d) marked
  let released := (ascending (leaving ++ freed)).foldl
    (fun s d => if freed.contains d then s.releaseToFree d else s.settle reporting d) detached
  let recorded := if reporting then leaving.foldl (fun s d => s.appendCompletion d) released else released
  recorded.setEvent n cause.event

/-! ## Session start (R65) -/

/-- The start of a session attempt: the parameters are latched, the window and the counts are 0 (R65, R156). -/
def LinkEngine.startSession (e : LinkEngine) : LinkEngine :=
  { e with
    latched := e.programmed
    nextOrdinal := 0
    oldest := 0
    expected := 0
    retryCount := 0
    peerCredit := 0
    advertised := 0
    accepted := 0
    drainOrigin := none }

/-! ## Draining (R74) -/

/-- The drain condition (R74). -/
def State.drainCondition (s : State) (n : LinkId) : Bool :=
  (s.le n).submit.isEmpty && (s.le n).retention.isEmpty && !s.hasDetached n

/-- The Link Engine enters CLOSING and sends CLOSE (R74, origin HOST). -/
def LinkEngine.toClosing (e : LinkEngine) : LinkEngine :=
  { e with pending := { e.pending with close := true }, retryCount := 0, session := .closing,
           drainOrigin := none }.startTimer .control

/-- The drain test: a DRAINING link whose drain condition holds moves on, by its drain origin (R74). -/
def State.drainTest (n : LinkId) (s : State) : State :=
  if (s.le n).session = .draining ∧ s.drainCondition n = true then
    match (s.le n).drainOrigin with
    | some .host => s.modLE n LinkEngine.toClosing
    | some .peer =>
      (s.modLE n fun e => { e with pending := { e.pending with closeAck := true } }).endSession n .normal
        { closeAck := true }
    | none => s
  else s

end Sys2Proof.Machine
end

