-- ==== Sys2Proof/Machine/Queues.lean ====
section
/-! DEFINITION. The delivery and completion queues as the host works them (sections 8.4 and 8.5). -/

namespace Sys2Proof.Machine

/-- The word a read returns, kept in the model's own field (log entry 10). -/
def State.driveData (w : Word) (s : State) : State := { s with readData := some w }

/-- A word of two bytes, the first in the low half (chapter 00). -/
def wordOf (low high : Byte) : Word := high ++ low

/-- The length of a descriptor's parcel; an absent one reads as 0 (R4). -/
def Descriptor.bytes (r : Descriptor) : Nat := r.length.getD 0

/-- The head's payload bytes not yet returned through DELIVERY DATA (R169). -/
def State.bytesLeft (s : State) : Nat :=
  match s.delivery with
  | d :: _ => (s.desc d).bytes - s.readPointer
  | [] => 0

/-- The word a read of DELIVERY DATA returns (R169, R170). -/
def State.deliveryWord (s : State) : Word :=
  match s.delivery, s.bytesLeft with
  | _, 0 | [], _ => 0
  | d :: _, 1 => wordOf (s.readPayload d s.readPointer) 0
  | d :: _, _ => wordOf (s.readPayload d s.readPointer) (s.readPayload d (s.readPointer + 1))

/-- DELIVERY_DATA_READ (R169, R170). -/
def execDeliveryDataRead (s : State) : Host.Outcome State Fault Refusal :=
  if s.bytesLeft = 0 then .next ((s.setGlobal .readOverrun).driveData 0)
  else .next ({ s with readPointer := s.readPointer + min 2 s.bytesLeft }.driveData s.deliveryWord)

/-- RELEASE (R171); the link number of the command word is ignored. -/
def execRelease (_link : BitVec 4) (s : State) : Host.Outcome State Fault Refusal :=
  match s.delivery with
  | d :: rest => .next (({ s with delivery := rest, readPointer := 0 }.releaseToFree d).setResult 9 .done)
  | [] => .next (s.setResult 9 .empty)

/-- POP (R175); the link number of the command word is ignored. -/
def execPop (_link : BitVec 4) (s : State) : Host.Outcome State Fault Refusal :=
  match s.completion with
  | d :: rest => .next (({ s with completion := rest }.releaseToFree d).setResult 10 .done)
  | [] => .next (s.setResult 10 .empty)

end Sys2Proof.Machine
end

