-- ==== Sys2Proof/Machine/Recogniser.lean ====
section
/-! DEFINITION. The receive character recogniser: what it makes of the levels of RXD, one REFCLK period after another
(R23, R25, R27). The characters, breaks and returns to mark that it recognises are the rows RECEIVE_CHARACTER, BREAK and
RXD_RETURNS_TO_MARK. -/

namespace Sys2Proof.Machine

/-! ## Times (R23) -/

/-- REFCLK periods in a bit at the divider of the register (R23). -/
def LineUnit.bitTime (u : LineUnit) : Nat := u.divider + 1

/-- The bit time in force in the receive direction, `next` being that of the next start bit: a character keeps the one it
began with until its stop bit has been sampled (R23). -/
def RxPhase.bitTimeOr (next : Nat) (p : RxPhase) : Nat :=
  match p with
  | .receiving bitTime _ _ => bitTime
  | .waiting | .waitMark => next

/-- The bit time in force for what the receiver starts to measure now (R23). -/
def LineUnit.rxBitTime (u : LineUnit) : Nat := u.rx.phase.bitTimeOr u.bitTime

/-- A character time in REFCLK periods (R22). -/
def charTimeOf (bitTime : Nat) : Nat := Config.charBits * bitTime

/-- The REFCLK period, counted from the falling edge of the start bit, that samples the stop bit: the middle of bit
time 11 (R25; log entry 21). -/
def stopSample (bitTime : Nat) : Nat := 11 * bitTime + bitTime / 2

/-! ## Characters (R25) -/

/-- After the period that has sampled its stop bit a character is over: from mark the receiver waits for the next start
bit at once, from space it waits for mark (R25). -/
def RxPhase.settle (p : RxPhase) : RxPhase :=
  match p with
  | .receiving bitTime elapsed samples =>
    if stopSample bitTime ≤ elapsed then if samples.getLsbD 11 then .waiting else .waitMark else p
  | .waiting | .waitMark => p

/-- One more REFCLK period inside a character: the middle of each bit time is sampled, and mark in the middle of the start
bit is a false start (R25). -/
def receivePeriod (bitTime elapsed : Nat) (samples : BitVec 12) (now : Bool) : RxPhase :=
  if elapsed % bitTime = bitTime / 2 then
    if elapsed / bitTime = 0 ∧ now = true then .waiting
    else .receiving bitTime elapsed (if now then samples ||| BitVec.twoPow 12 (elapsed / bitTime) else samples)
  else .receiving bitTime elapsed samples

/-- The recogniser's phase after one more REFCLK period, RXD having gone from `prev` to `now`; a start bit found is
received at bit time `bitTime` (R23, R25). -/
def RxPhase.tick (bitTime : Nat) (prev now : Bool) (p : RxPhase) : RxPhase :=
  match p.settle with
  | .waiting => if prev && !now then .receiving bitTime 0 0 else .waiting
  | .receiving b elapsed samples => receivePeriod b (elapsed + 1) samples now
  | .waitMark => if now then .waiting else .waitMark

/-- The character whose stop bit has just been sampled. -/
def RxPhase.recognised (p : RxPhase) : Option (BitVec 12) :=
  match p with
  | .receiving bitTime elapsed samples => if elapsed = stopSample bitTime then some samples else none
  | .waiting | .waitMark => none

/-! ## Breaks (R27) -/

/-- The space being measured in this REFCLK period: one that goes on, or one that a falling edge begins (R27; log
entry 23). -/
def Receiver.spaceNow (charTime : Nat) (prev now : Bool) (r : Receiver) : Option SpaceRun :=
  if now then none
  else if prev then some { elapsed := 0, charTime := charTime }
  else r.space.map fun run => { run with elapsed := run.elapsed + 1 }

/-- A space has lasted 2 character times: a break (R27). -/
def SpaceRun.isBreak (run : SpaceRun) : Bool := decide (2 * run.charTime ≤ run.elapsed)

/-- A space is measured no further once it is a break, which is recognised once, and once a character with a mark among its
bits has had its stop bit sampled at space, which is faulted at once (R26, R27; log entry 23). -/
def spaceKept (recognised : Option (BitVec 12)) (space : Option SpaceRun) : Option SpaceRun :=
  if recognised.any (· != 0) || space.any SpaceRun.isBreak then none else space

/-! ## The Line Unit -/

/-- The space being measured in this REFCLK period, at the rate in force when it began (R23, R27). -/
def LineUnit.spaceNow (prev now : Bool) (u : LineUnit) : Option SpaceRun :=
  u.rx.spaceNow (charTimeOf (u.rx.phase.settle.bitTimeOr u.bitTime)) prev now

/-- The recogniser after one more REFCLK period. -/
def LineUnit.rxTick (prev now : Bool) (u : LineUnit) : LineUnit :=
  let phase := u.rx.phase.tick u.bitTime prev now
  { u with rx := { phase := phase, space := spaceKept phase.recognised (u.spaceNow prev now) } }

/-- What the recogniser recognises in this REFCLK period: a character, a break, a return to mark. -/
def LineUnit.rxDue (n : LinkId) (prev now : Bool) (u : LineUnit) : List Instr :=
  (match (u.rx.phase.tick u.bitTime prev now).recognised with
    | some samples => [.receiveCharacter n samples]
    | none => []) ++
  (if (u.spaceNow prev now).any SpaceRun.isBreak then [.lineBreak n] else []) ++
  (if u.rx.phase.settle = .waitMark ∧ now = true then [.rxdReturnsToMark n] else [])

/-- The recogniser when a device-wide reset is taken: the character being received is lost, also where its stop bit has just
been sampled and its row still waits, and a space on RXD is measured from that moment while the receiver waits for mark
(R27, R46; log entry 22). -/
def Receiver.atReset (level : Bool) (r : Receiver) : Receiver :=
  { phase := if level then .waiting else .waitMark
    space := if level then none else some { elapsed := 0, charTime := charTimeOf 16 }
    lost := r.phase.recognised.or r.lost }

/-- The level of RXD in the next REFCLK period. -/
def RxdLine.next (l : RxdLine) : Bool := l.coming.headD true

/-- A receive line one REFCLK period later. -/
def RxdLine.tick (l : RxdLine) : RxdLine := { level := l.next, coming := l.coming.tail }

end Sys2Proof.Machine
end

