-- ==== Sys2Proof/Machine/Session.lean ====
section
/-! DEFINITION. Sessions (chapter 4): the host's session commands, the control parcels a Link Engine takes, and the
drain test. Each received kind has one operation (`takeOpen` and so on) that the EOP character's hand-off and the
RECEIVE row of the kind both call (log entry 5). -/

namespace Sys2Proof.Machine

/-! ## Session commands (section 4.3) -/

/-- OPEN on a CLOSED link: the new epoch, the start of R65, OPEN pending, CONTROL mode, OPENING (R66). -/
def LinkEngine.hostOpen (e : LinkEngine) : LinkEngine :=
  let started := { e with epoch := e.epoch + 1 }.startSession
  { started with pending := { started.pending with open_ := true }, session := .opening }.startTimer .control

/-- The effect of a session command and its result, on a link that the command names. -/
def State.openCommand (n : LinkId) (s : State) : State :=
  if (s.le n).session = .closed then (s.modLE n LinkEngine.hostOpen).setResult 1 .done
  else s.setResult 1 .badstate

/-- OPEN (R66). -/
def execHostOpen (link : BitVec 4) (s : State) : Host.Outcome State Fault Refusal :=
  match linkOf link with
  | some n => .next (s.openCommand n)
  | none => .next (s.setResult 1 .badarg)

/-- The link enters DRAINING (R67, R75). -/
def LinkEngine.drain (origin : DrainOrigin) (e : LinkEngine) : LinkEngine :=
  { e with session := .draining, drainOrigin := some origin }

/-- CLOSE on link `n`: OPEN drains, OPENING ends with NORMAL (R67). -/
def State.closeCommand (n : LinkId) (s : State) : State :=
  match (s.le n).session with
  | .open_ => ((s.modLE n (LinkEngine.drain .host)).drainTest n).setResult 2 .done
  | .opening => (s.endSession n .normal {}).setResult 2 .done
  | .closed | .draining | .closing => s.setResult 2 .badstate

/-- CLOSE (R67). -/
def execHostClose (link : BitVec 4) (s : State) : Host.Outcome State Fault Refusal :=
  match linkOf link with
  | some n => .next (s.closeCommand n)
  | none => .next (s.setResult 2 .badarg)

/-- ABORT on link `n` (R68). -/
def State.abortCommand (n : LinkId) (s : State) : State :=
  if (s.le n).session = .closed then s.setResult 3 .badstate
  else ((s.makeDrop n (s.le n).epoch).endSession n .aborted { drop := true }).setResult 3 .done

/-- ABORT (R68). -/
def execHostAbort (link : BitVec 4) (s : State) : Host.Outcome State Fault Refusal :=
  match linkOf link with
  | some n => .next (s.abortCommand n)
  | none => .next (s.setResult 3 .badarg)

/-! ## Received control parcels (sections 4.4 to 4.6) -/

/-- The Link Engine enters OPEN with the peer's credit, the link timer stopped and the retry count 0 (R71, R73). -/
def LinkEngine.establish (credit : Nat) (e : LinkEngine) : LinkEngine :=
  { e with peerCredit := credit, timer := none, retryCount := 0, session := .open_ }

/-- GRANT is made pending. -/
def LinkEngine.makeGrant (e : LinkEngine) : LinkEngine :=
  { e with pending := { e.pending with grant := true } }

/-- CLOSE-ACK is made pending. -/
def LinkEngine.makeCloseAck (e : LinkEngine) : LinkEngine :=
  { e with pending := { e.pending with closeAck := true } }

/-- An OPEN parcel accepted in CLOSED (R70). -/
def LinkEngine.acceptOpen (epoch : Epoch) (credit : Nat) (e : LinkEngine) : LinkEngine :=
  { ({ e with epoch := epoch }.startSession).makeGrant with peerCredit := credit, session := .open_ }

/-- An OPEN parcel taken in CLOSED, with the accept enable that judges it (R70, R72). -/
def State.openInClosed (n : LinkId) (accept : Bool) (epoch : Epoch) (credit : Nat) (s : State) : State :=
  if accept then (s.modLE n (LinkEngine.acceptOpen epoch credit)).setEvent n .opened
  else s.makeDrop n epoch

/-- An OPEN parcel taken in OPENING, judged against the latched rank (R71). -/
def State.openInOpening (n : LinkId) (epoch : Epoch) (rank credit : Nat) (s : State) : State :=
  if (s.le n).latched.rank < rank then
    (s.modLE n fun e => (({ e with epoch := epoch }.makeGrant).establish credit).queryTest).setEvent n .opened
  else if rank = (s.le n).latched.rank then s.setEvent n .rankClash
  else s

/-- The peer has restarted: the session ends and the same OPEN is taken as in CLOSED, judged by the latched accept
enable. A GRANT or DROP that this event makes pending is kept through the cleanup (R72, R80; log entry 11). -/
def State.peerRestart (n : LinkId) (epoch : Epoch) (credit : Nat) (s : State) : State :=
  let accept := (s.le n).latched.accept
  (s.endSession n .peerRestart { grant := accept, drop := !accept }).openInClosed n accept epoch credit

/-- An OPEN parcel is taken (R70, R71, R72). -/
def State.takeOpen (n : LinkId) (epoch : Epoch) (rank credit : Nat) (s : State) : State :=
  match (s.le n).session with
  | .closed => s.openInClosed n (s.le n).programmed.accept epoch credit
  | .opening => s.openInOpening n epoch rank credit
  | .open_ | .draining | .closing =>
    if epoch = (s.le n).epoch then s.modLE n LinkEngine.makeGrant else s.peerRestart n epoch credit

/-- A GRANT parcel is taken (R73). -/
def State.takeGrant (n : LinkId) (epoch : Epoch) (credit : Nat) (s : State) : State :=
  if (s.le n).session = .opening ∧ epoch = (s.le n).epoch then
    (s.modLE n fun e => (e.establish credit).queryTest).setEvent n .opened
  else s

/-- A CLOSE parcel is taken (R75). -/
def State.takeClose (n : LinkId) (epoch : Epoch) (s : State) : State :=
  if epoch = (s.le n).epoch then
    match (s.le n).session with
    | .open_ => ((s.modLE n (LinkEngine.drain .peer)).setEvent n .peerClosing).drainTest n
    | .closing | .closed => s.modLE n LinkEngine.makeCloseAck
    | .opening | .draining => s
  else s

/-- A CLOSE-ACK parcel is taken (R76). -/
def State.takeCloseAck (n : LinkId) (epoch : Epoch) (s : State) : State :=
  if (s.le n).session = .closing ∧ epoch = (s.le n).epoch then s.endSession n .normal {} else s

/-- A DROP parcel is taken (R78). -/
def State.takeDrop (n : LinkId) (epoch : Epoch) (s : State) : State :=
  if (s.le n).session ≠ .closed ∧ epoch = (s.le n).epoch then s.endSession n .peerDrop {} else s

/-- RECEIVE_OPEN (R70-R72); a credit above 8 is taken as 8 (R49). -/
def execReceiveOpen (n : LinkId) (epoch : Epoch) (rank : BitVec 2) (credit : Byte) (s : State) :
    Host.Outcome State Fault Refusal :=
  .next (s.takeOpen n epoch rank.toNat (takeCredit credit.toNat))

/-- RECEIVE_GRANT (R73). -/
def execReceiveGrant (n : LinkId) (epoch : Epoch) (credit : Byte) (s : State) : Host.Outcome State Fault Refusal :=
  .next (s.takeGrant n epoch (takeCredit credit.toNat))

/-- RECEIVE_CLOSE (R75). -/
def execReceiveClose (n : LinkId) (epoch : Epoch) (s : State) : Host.Outcome State Fault Refusal :=
  .next (s.takeClose n epoch)

/-- RECEIVE_CLOSE_ACK (R76). -/
def execReceiveCloseAck (n : LinkId) (epoch : Epoch) (s : State) : Host.Outcome State Fault Refusal :=
  .next (s.takeCloseAck n epoch)

/-- RECEIVE_DROP (R78). -/
def execReceiveDrop (n : LinkId) (epoch : Epoch) (s : State) : Host.Outcome State Fault Refusal :=
  .next (s.takeDrop n epoch)

/-- DRAIN_COMPLETE: the drain test (R74). -/
def execDrainComplete (n : LinkId) (s : State) : Host.Outcome State Fault Refusal := .next (s.drainTest n)

end Sys2Proof.Machine
end

