-- ==== Sys2Proof/Machine/Window.lean ====
section
/-! DEFINITION. What a Link Engine does with DATA, a RECEIPT, a QUERY and a drop report of its Line Unit (chapters 5
and 7). Each has one operation that the EOP character's hand-off and the RECEIVE row of the kind both call (log
entry 5). -/

namespace Sys2Proof.Machine

/-! ## Arriving DATA (sections 7.2 and 7.3) -/

/-- The offset of an ordinal from a base, 0..63 (chapter 00). -/
def offsetFrom (base o : Ordinal) : Nat := (o - base).toNat

/-- What becomes of a DATA parcel of the current epoch (R138). -/
inductive Classification where
  | deliver
  | hold (offset : Nat)
  | dup
  | outwin
  deriving DecidableEq, Repr

/-- The classification by the offset from E and the receive window (R138). -/
def LinkEngine.classify (e : LinkEngine) (o : Ordinal) : Classification :=
  let d := offsetFrom e.expected o
  if d = 0 then .deliver
  else if d ≤ 7 then
    match e.window.getD (d - 1) none with
    | none => .hold d
    | some _ => .dup
  else if 56 ≤ d then .dup
  else .outwin

/-- An acceptance: the accepted count, the threshold, the hold time and the hold timer (R135, R145-R147). -/
def LinkEngine.accept (e : LinkEngine) : LinkEngine :=
  let count := min 8 (e.accepted + 1)
  let due := decide (e.latched.threshold ≤ count) || e.latched.holdTime == 0
  { e with
    accepted := count
    holdTimer := if e.accepted = 0 ∧ 0 < e.latched.holdTime then some 0 else e.holdTimer
    pending := { e.pending with receipt := e.pending.receipt || due } }

/-- Descriptor `d` becomes DELIVERED with its *held* field written, joins the delivery queue and is counted; E advances
(R139, R167). -/
def State.appendDelivery (n : LinkId) (held : Bool) (d : DescId) (s : State) : State :=
  (((({ s with delivery := s.delivery ++ [d] }.modDesc d fun r => { r with state := .delivered, held := some held }).modLE
    n fun e => { e with expected := e.expected + 1 }).setGlobal .deliveryReady).count n .dataDelivered)

/-- The receive window after E has advanced past the arriving parcel and the `k` promoted ones: every offset falls by
`k + 1` (R134, R139). -/
def advanceWindow (k : Nat) (w : List (Option DescId)) : List (Option DescId) :=
  (w.drop (k + 1) ++ List.replicate (k + 1) none).take 7

/-- The descriptors that a delivery promotes: those held at the offsets 1, 2, … up to the first empty one (R139). -/
def promoted (w : List (Option DescId)) : List DescId := (w.takeWhile Option.isSome).filterMap id

/-- A DATA parcel at offset 0 is delivered, and the parcels held behind it are promoted (R139). -/
def State.deliver (n : LinkId) (d : DescId) (s : State) : State :=
  let run := promoted (s.le n).window
  let first := s.appendDelivery n false d
  let all := run.foldl (fun s h => s.appendDelivery n true h) first
  all.modLE n fun e => { e with window := advanceWindow run.length e.window }.accept

/-- A DATA parcel at an empty offset `k` of 1..7 is held (R140). -/
def State.hold (n : LinkId) (d : DescId) (k : Nat) (s : State) : State :=
  ((s.modDesc d fun r => { r with state := .held, held := some false }).modLE n fun e =>
    { e with window := e.window.set (k - 1) (some d) }.accept).makeReceipt n

/-- A DATA parcel is dropped by the Link Engine (R143). -/
def State.dropData (n : LinkId) (d : DescId) (cause : DropCause) (s : State) : State :=
  (s.releaseToFree d).reportDrop n cause

/-- A sign of life: in CLOSING the retry count becomes 0 (R77). -/
def LinkEngine.signOfLife (e : LinkEngine) : LinkEngine :=
  if e.session = .closing then { e with retryCount := 0 } else e

/-- A stored DATA parcel is handed to the Link Engine with its descriptor (R138). -/
def State.takeData (n : LinkId) (d : DescId) (s : State) : State :=
  if (s.desc d).epoch = some (s.le n).epoch then
    let alive := s.modLE n LinkEngine.signOfLife
    match (s.le n).classify ((s.desc d).ordinal.getD 0) with
    | .deliver => alive.deliver n d
    | .hold k => alive.hold n d k
    | .dup => (alive.dropData n d .dup).makeReceipt n
    | .outwin => (alive.dropData n d .outwin).makeReceipt n
  else s.dropData n d .stale

/-! ## Drop reports of the Line Unit (R43) -/

/-- A NOMEM drop is counted and makes a receipt pending (R148, R195). -/
def State.takeNomem (n : LinkId) (s : State) : State :=
  let counted := s.reportDrop n .nomem
  if (s.le n).session.live then counted.makeReceipt n else counted

/-- A NOSESSION drop is counted and, in CLOSED, draws a DROP with the parcel's epoch (R43, R79, R195). -/
def State.takeNosession (n : LinkId) (epoch : Epoch) (s : State) : State :=
  let counted := s.reportDrop n .noSession
  if (s.le n).session = .closed then counted.makeDrop n epoch else counted

/-! ## A receipt (section 5.6) -/

/-- Part 3 of a receipt: the `d` oldest descriptors leave with *outcome* DELIVERED and OU becomes `k` (R101-R103). -/
def State.acknowledge (n : LinkId) (k : Ordinal) (d : Nat) (s : State) : State :=
  let leaving := (s.le n).retention.take d
  let onLine := leaving.filter s.isOnLine
  let atOnce := leaving.filter fun x => !s.isOnLine x
  let detached := onLine.foldl (fun s x => s.detach .delivered x) s
  let marked := atOnce.foldl (fun s x => s.setOutcome .delivered x) detached
  let moved := marked.modLE n fun e => { e with oldest := k, retention := e.retention.drop d }
  moved.completeAll (s.le n).latched.reporting atOnce

/-- The descriptor is reported held by the peer (R104). -/
def State.markSeen (d : DescId) (s : State) : State :=
  s.modDesc d fun r => { r with seen := some true, resendPending := some false }

/-- The RETAINED descriptors that a gap map reports held, the flag of offset j at bit j - 1 (R104, R212). -/
def LinkEngine.reported (gapMap : BitVec 7) (e : LinkEngine) : List DescId :=
  (List.range 7).filterMap fun i => if gapMap.getLsbD i then e.retention[i + 1]? else none

/-- Part 6 of a receipt, the link timer in OPEN and DRAINING (R125). A run that goes on unchanged is held off an expiry due at
the same moment (R126, R131; log entry 25). -/
def LinkEngine.receiptTimer (advanced : Bool) (e : LinkEngine) : LinkEngine :=
  if e.session.sending then
    if e.retention.isEmpty then
      if e.queryCondition then
        if e.timerMode = some .query then e.holdOffTimer else e.startTimer .query
      else e.stopTimer
    else if advanced then e.startTimer .resend else e.holdOffTimer
  else e

/-- A valid receipt, parts 3 to 6 (R98). -/
def State.takeValidReceipt (n : LinkId) (k : Ordinal) (gapMap : BitVec 7) (credit : Nat) (s : State) : State :=
  let d := offsetFrom (s.le n).oldest k
  let acknowledged := s.acknowledge n k d
  let seen := ((acknowledged.le n).reported gapMap).foldl (fun s x => s.markSeen x) acknowledged
  let credited := (seen.modLE n fun e => { e with peerCredit := credit, retryCount := 0 }).count n .rcptTaken
  (credited.modLE n (LinkEngine.receiptTimer (0 < d))).drainTest n

/-- A RECEIPT parcel is taken (R79, R98-R106). -/
def State.takeReceipt (n : LinkId) (epoch : Epoch) (k : Ordinal) (gapMap : BitVec 7) (credit : Nat) (s : State) :
    State :=
  match (s.le n).session with
  | .closed => s.makeDrop n epoch
  | .opening => s
  | .open_ | .draining | .closing =>
    if epoch = (s.le n).epoch then
      if offsetFrom (s.le n).oldest k ≤ (s.le n).retention.length then s.takeValidReceipt n k gapMap credit
      else s.count n .badRcpt
    else s.reportDrop n .stale

/-- A QUERY parcel is taken (R79, R149). -/
def State.takeQuery (n : LinkId) (epoch : Epoch) (s : State) : State :=
  match (s.le n).session with
  | .closed => s.makeDrop n epoch
  | .opening => s
  | .open_ | .draining | .closing =>
    if epoch = (s.le n).epoch then s.makeReceipt n else s.reportDrop n .stale

/-! ## The rows of the table -/

/-- RECEIVE_DATA: the parcel in the link's receive record is handed over and the record returns to HUNT (R42, R43,
R138). Where the record holds no stored parcel of a live session the hand-off does not occur (R53). -/
def execReceiveData (n : LinkId) (s : State) : Host.Outcome State Fault Refusal :=
  match (s.lu n).record.descriptor with
  | some d =>
    if (s.lu n).record.storage = some .storing ∧ (s.le n).session.live = true then
      .next ((s.modLU n fun u => { u with record := {}, gapTimer := none }).takeData n d)
    else .next s
  | none => .next s

/-- RECEIVE_RECEIPT (R98); a credit above 8 is taken as 8 (R49). -/
def execReceiveReceipt (n : LinkId) (epoch : Epoch) (cumulative : Ordinal) (gapMap : BitVec 7) (credit : Byte)
    (s : State) : Host.Outcome State Fault Refusal :=
  .next (s.takeReceipt n epoch cumulative gapMap (takeCredit credit.toNat))

/-- RECEIVE_QUERY (R149). -/
def execReceiveQuery (n : LinkId) (epoch : Epoch) (s : State) : Host.Outcome State Fault Refusal :=
  .next (s.takeQuery n epoch)

end Sys2Proof.Machine
end

