-- ==== Sys2Proof/Machine/Receive.lean ====
section
/-! DEFINITION. The receive side of a Line Unit (chapter 2): characters, the line state, the receive parcel record and
the hand-off to the Link Engine at EOP. -/

namespace Sys2Proof.Machine

/-! ## Character time and the gap timer -/

/-- The gap timer starts, or restarts from zero (R41); it is measured with the divider in force in the receive direction,
that of the character just recognised (R23). -/
def LineUnit.startGap (u : LineUnit) : LineUnit :=
  { u with gapTimer := some { elapsed := 0, charTime := charTimeOf u.rxBitTime } }

/-- A gap timer has reached the gap limit (R41). -/
def GapTimer.over (limit : Nat) (g : GapTimer) : Bool := decide (limit * g.charTime ≤ g.elapsed)

/-- The receive record returns to HUNT with every field absent, and the gap timer stops (R40, R42). -/
def LineUnit.toHunt (u : LineUnit) : LineUnit := { u with record := {}, gapTimer := none }

/-- An SOP opens a parcel: count 0, every other field absent, the running check at FFFFh (R37, R51). -/
def LineUnit.openParcel (u : LineUnit) : LineUnit :=
  { u with record := { phase := .inParcel, check := 0xFFFF } }.startGap

/-! ## Abandoning a parcel (R40) -/

/-- The ASSEMBLING descriptor of link `n`'s record, if any, is released (R15). -/
def State.releaseRecord (n : LinkId) (s : State) : State :=
  match (s.lu n).record.descriptor with
  | some d => s.releaseToFree d
  | none => s

/-- The parcel being received is abandoned with a drop cause (R40). -/
def State.abandon (n : LinkId) (cause : DropCause) (s : State) : State :=
  ((s.releaseRecord n).modLU n LineUnit.toHunt).reportDrop n cause

/-- Link `n`'s receiver is in IN PARCEL. -/
def State.inParcel (s : State) (n : LinkId) : Bool := (s.lu n).record.phase == .inParcel

/-- The parcel being received, if there is one, is abandoned with a drop cause. -/
def State.abandonIfOpen (n : LinkId) (cause : DropCause) (s : State) : State :=
  if s.inParcel n then s.abandon n cause else s

/-! ## Line state (section 2.2) -/

/-- The change from UP to DOWN: the run becomes 0, LINE_DOWN is Set, and with the latched action FAIL a session of the
link ends with LINE_LOST (R29, R30). -/
def State.lineDown (n : LinkId) (s : State) : State :=
  let down := (s.modLU n fun u => { u with lineState := .down, run := 0 }).setEvent n .lineDown
  if (s.le n).session ≠ .closed ∧ (s.le n).latched.lossAction = .fail then down.endSession n .lineLost {} else down

/-- A good character: the line-loss timer restarts and the run rises; at 16 a DOWN line comes UP (R28, R29). -/
def State.goodCharacter (n : LinkId) (s : State) : State :=
  let run := min Config.goodRun ((s.lu n).run + 1)
  let counted := s.modLU n fun u => { u with run := run, lossTimer := some 0 }
  if run = Config.goodRun ∧ (s.lu n).lineState = .down then
    (counted.modLU n fun u => { u with lineState := .up }).setEvent n .lineUp
  else counted

/-- A faulted character: the run becomes 0 and the fault is counted (R26, R28). -/
def State.faultedCharacter (n : LinkId) (s : State) : State :=
  (s.modLU n fun u => { u with run := 0 }).count n .charFaults

/-- The line-loss timer expires (R29). A parcel in progress is abandoned first, and the session end that action FAIL brings
follows with its own releases (R30, R40; log entry 24). -/
def State.lineLossExpires (n : LinkId) (s : State) : State :=
  let stopped := s.modLU n fun u => { u with lossTimer := none }
  if (s.lu n).lineState = .up then (stopped.abandonIfOpen n .truncated).lineDown n else stopped

/-! ## Data bytes in a parcel (R38, R39) -/

/-- The descriptor that a receive claim fills (R6). -/
def RxRecord.fill (n : LinkId) (len : Nat) (r : RxRecord) : Descriptor :=
  { state := .assembling, link := some n, direction := some .inbound, length := some len, epoch := r.epoch,
    ordinal := r.ordinal, copy := r.copy, held := some false }

/-- The record's storage is decided. -/
def State.setStorage (n : LinkId) (storage : Storage) (d : Option DescId) (s : State) : State :=
  s.modLU n fun u => { u with record := { u.record with storage := some storage, descriptor := d } }

/-- The storage decision at the *length* byte of a DATA parcel (R39). -/
def State.decideStorage (n : LinkId) (len : Nat) (s : State) : State :=
  if lengthInRange len && (s.le n).session.live then
    match s.claim n len ((s.lu n).record.fill n len) with
    | some (d, claimed) => claimed.setStorage n .storing (some d)
    | none => s.setStorage n .refused none
  else s.setStorage n .unstored none

/-- What data byte number `i` of a parcel does to *storage*: CONTROL or UNSTORED after the first byte of a control kind
or of no kind, the decision of R39 at the *length* byte of DATA (R38). -/
def State.storageAt (n : LinkId) (i : Nat) (b : Byte) (s : State) : State :=
  match (s.lu n).record.kind, i with
  | some (.named .data), 2 => s.decideStorage n b.toNat
  | some (.named .data), _ => s
  | some (.named _), 0 => s.setStorage n .control none
  | some .unnamed, 0 => s.setStorage n .unstored none
  | _, _ => s

/-- Payload byte `i - 3` of a stored DATA parcel is written (R38). -/
def State.storePayload (n : LinkId) (i : Nat) (b : Byte) (s : State) : State :=
  let r := (s.lu n).record
  match r.storage, r.descriptor, r.length with
  | some .storing, some d, some len => if 3 ≤ i ∧ i - 3 < len then s.writePayload d (i - 3) b else s
  | _, _, _ => s

/-- A data byte is taken in IN PARCEL (R38, R51). -/
def State.takeByte (n : LinkId) (b : Byte) (s : State) : State :=
  let i := (s.lu n).record.count
  let taken := s.modLU n fun u =>
    { u with record := { u.record.takeHeader i b with count := min 255 (i + 1), check := checkByte u.record.check b } }
  (taken.storageAt n i b).storePayload n i b

/-! ## The end of a parcel (R42, R43, R52) -/

/-- A whole control parcel is handed to the Link Engine (R43, R53). -/
def State.takeControl (n : LinkId) (k : Kind) (r : RxRecord) (s : State) : State :=
  let epoch := r.epoch.getD 0
  let credit := r.credit.getD 0
  match k with
  | .data => s
  | .receipt => s.takeReceipt n epoch (r.cumulative.getD 0) (r.gapMap.getD 0) credit
  | .query => s.takeQuery n epoch
  | .open_ => s.takeOpen n epoch (r.rank.getD 0) credit
  | .grant => s.takeGrant n epoch credit
  | .close => s.takeClose n epoch
  | .closeAck => s.takeCloseAck n epoch
  | .drop => s.takeDrop n epoch

/-- A parcel that passed the format checks, by its storage (R42). -/
def State.handOff (n : LinkId) (r : RxRecord) (s : State) : State :=
  match r.storage, r.kind with
  | some .storing, _ =>
    match r.descriptor with
    | some d => s.takeData n d
    | none => s
  | some .refused, _ => s.takeNomem n
  | some .unstored, _ => s.takeNosession n (r.epoch.getD 0)
  | some .control, some (.named k) => s.takeControl n k r
  | _, _ => s

/-- EOP in IN PARCEL: the format checks, then the drop or the hand-off; the record returns to HUNT (R42, R43, R52). -/
def State.finishParcel (n : LinkId) (s : State) : State :=
  let r := (s.lu n).record
  match r.formatFault with
  | some cause => ((s.releaseRecord n).modLU n LineUnit.toHunt).reportDrop n cause
  | none => (s.modLU n LineUnit.toHunt).handOff n r

/-! ## Characters -/

/-- A recognised character in HUNT (R37). -/
def State.huntCharacter (n : LinkId) (c : LineChar) (s : State) : State :=
  match c with
  | .control .idle => s
  | .control .sop => s.modLU n LineUnit.openParcel
  | .control .eop | .control .abort | .data _ => s.count n .charFaults

/-- A good character in IN PARCEL; the gap timer has restarted (R38, R40-R42). -/
def State.parcelCharacter (n : LinkId) (c : LineChar) (s : State) : State :=
  match c with
  | .data b => s.takeByte n b
  | .control .eop => s.finishParcel n
  | .control .abort => s.abandon n .aborted
  | .control .idle => s.abandon n .truncated
  | .control .sop => (s.abandon n .truncated).modLU n LineUnit.openParcel

/-- A character is recognised and has its outcome (R26, R28, R37-R41). -/
def State.recognised (n : LinkId) (o : CharOutcome) (s : State) : State :=
  match o with
  | .faulted => (s.faultedCharacter n).abandonIfOpen n .charFault
  | .good c =>
    if s.inParcel n then ((s.goodCharacter n).modLU n LineUnit.startGap).parcelCharacter n c
    else (s.goodCharacter n).huntCharacter n c

/-- RXD is at mark: a held all-space character is classified as a framing fault, and a break condition becomes absent
(R27). -/
def State.atMark (n : LinkId) (s : State) : State :=
  if (s.lu n).heldSpace then (s.modLU n fun u => { u with heldSpace := false, breakPresent := false }).recognised n .faulted
  else s.modLU n fun u => { u with breakPresent := false }

/-- The twelve samples of a character on link `n` (R25, R26, R27). A start bit needs a transition from mark, so a held
character or a break condition has ended when they begin (log entry 6). -/
def State.receiveSamples (n : LinkId) (samples : BitVec 12) (s : State) : State :=
  let marked := s.atMark n
  if falseStart samples then marked
  else if allSpace samples then marked.modLU n fun u => { u with heldSpace := true }
  else marked.recognised n (classify samples)

/-- A break is recognised (R27). A parcel in progress is abandoned first, and the change to DOWN, with the session end that
action FAIL brings, follows with its own releases (R29, R30, R40; log entry 24). -/
def State.breakRecognised (n : LinkId) (s : State) : State :=
  if (s.lu n).breakPresent then s
  else
    let broken := (s.modLU n fun u => { u with heldSpace := false, breakPresent := true, run := 0 }).abandonIfOpen n
      .truncated
    if (s.lu n).lineState = .up then broken.lineDown n else broken

/-- The gap timer expires (R41). -/
def State.gapExpires (n : LinkId) (s : State) : State :=
  (s.modLU n fun u => { u with gapTimer := none }).abandonIfOpen n .gap

/-- The gap timer of this Line Unit runs and has reached the gap limit (R41). -/
def LineUnit.gapOver (u : LineUnit) : Bool := u.gapTimer.any (·.over u.gapLimit)

/-- The line-loss timer of this Line Unit runs and has reached the line-loss limit (R29, R115). -/
def LineUnit.lossOver (u : LineUnit) : Bool := u.lossTimer.any (u.lossLimit ≤ ·)

/-! ## The rows of the table -/

/-- RECEIVE_CHARACTER (R26). A character that a reset has lost has no effect (R46; log entry 22). -/
def execReceiveCharacter (n : LinkId) (samples : BitVec 12) (s : State) : Host.Outcome State Fault Refusal :=
  if (s.lu n).rx.lost = some samples then .next s else .next (s.receiveSamples n samples)

/-- BREAK (R27). A space that is still being measured is no break yet, as after a reset, which starts its measurement
again (log entry 2). -/
def execLineBreak (n : LinkId) (s : State) : Host.Outcome State Fault Refusal :=
  if (s.lu n).rx.space.isSome then .next s else .next (s.breakRecognised n)

/-- RXD_RETURNS_TO_MARK (R27). -/
def execRxdReturnsToMark (n : LinkId) (s : State) : Host.Outcome State Fault Refusal := .next (s.atMark n)

/-- LINE_LOSS_EXPIRY (R29): a timer that is stopped, or that has been restarted since, does not expire (log entry 2). -/
def execLineLossExpiry (n : LinkId) (s : State) : Host.Outcome State Fault Refusal :=
  if (s.lu n).lossOver then .next (s.lineLossExpires n) else .next s

/-- GAP_TIMER_EXPIRY (R41): a timer that is stopped, or that has been restarted since, does not expire (log entry 2). -/
def execGapTimerExpiry (n : LinkId) (s : State) : Host.Outcome State Fault Refusal :=
  if (s.lu n).gapOver then .next (s.gapExpires n) else .next s

/-! ## LINE LIMITS (R31) -/

/-- A gap limit is stored; a running gap timer that has already run that long expires at the write (R31, R41). -/
def State.writeGapLimit (n : LinkId) (w : Word) (s : State) : State :=
  let written := s.modLU n fun u => { u with gapLimit := clamp 1 255 w.toNat }
  if (written.lu n).gapOver then written.gapExpires n else written

/-- A line-loss limit is stored; a running line-loss timer whose count has reached it expires at the write (R29, R31,
R115). -/
def State.writeLossLimit (n : LinkId) (w : Word) (s : State) : State :=
  let written := s.modLU n fun u => { u with lossLimit := clamp 1 65535 w.toNat }
  if (written.lu n).lossOver then written.lineLossExpires n else written

/-- LINE_LIMITS_WRITE, on the link in LINK SELECT (R31). -/
def execLineLimitsWrite (limit : LimitWord) (w : Word) (s : State) : Host.Outcome State Fault Refusal :=
  match limit with
  | .gap => .next (s.writeGapLimit s.linkSelect w)
  | .lineLoss => .next (s.writeLossLimit s.linkSelect w)

end Sys2Proof.Machine
end

