-- ==== Sys2Proof/Machine/Resets.lean ====
section
/-! DEFINITION. The resets: pin reset and DEVICE RESET (R209, R210), LINK RESET (R85). -/

namespace Sys2Proof.Machine

/-! ## Device-wide resets -/

/-- Link `l` after a device-wide reset, RXD standing at `level` (R27, R46). -/
def Link.atReset (level : Bool) (l : Link) : Link :=
  { Link.reset with lu := { LineUnit.reset with rx := l.lu.rx.atReset level } }

/-- Every register, queue, timer and list at its reset value. The bytes in the blocks are not cleared (R20); RXD is the
peers'; the queue of waiting commands and the count of free values taken are the model's own and stay, and what the clock put
into the queue before the reset finds nothing to act on after it (log entry 22). -/
def State.deviceWide (s : State) : State :=
  { State.reset with
    mem := s.mem, pending := s.pending, freeIndex := s.freeIndex, rxd := s.rxd
    links := s.links.map fun n l => l.atReset (s.rxd.get n).level }

/-- DEVICE_RESET (R210); the link number of the command word is ignored. -/
def execDeviceReset (_link : BitVec 4) (s : State) : Host.Outcome State Fault Refusal :=
  .next ({ s.deviceWide with resetCause := .command }.setResult 15 .done)

/-- PIN_RESET: /RST is asserted and released (R209; log entry 8). -/
def execPinReset (s : State) : Host.Outcome State Fault Refusal := .next s.deviceWide

/-! ## LINK RESET (R85) -/

/-- The Link Engine after a LINK RESET: the DROP epoch, the epoch counter, both parameter sets, the ordinals and the
credits are kept (R85). -/
def LinkEngine.linkReset (e : LinkEngine) : LinkEngine :=
  { e with
    session := .closed
    endCause := .none
    drainOrigin := none
    pending := {}
    timer := none
    holdTimer := none
    retryCount := 0
    submit := []
    retention := []
    window := emptyWindow
    accepted := 0 }

/-- The Line Unit after a LINK RESET: nothing more is stored, and any parcel in progress is cut short (R35, R45), a control
parcel that a choice of the same moment has just started among them: the model's reading of R56 (log entry 28). -/
def LineUnit.linkReset (u : LineUnit) : LineUnit :=
  { u with record := u.record.withdrawStorage, tx := u.tx.cutShort }

/-- A link after a LINK RESET: its event flags are Cleared, its guarantee, masks and counters kept (R85, R190). -/
def Link.linkReset (l : Link) : Link := { l with le := l.le.linkReset, lu := l.lu.linkReset, events := 0 }

/-- Descriptor `d` belongs to link `n`. -/
def State.ofLink (s : State) (n : LinkId) (d : DescId) : Bool := (s.desc d).link == some n

/-- The staging context, unless it names link `n` (R166). -/
def State.stagingWithout (s : State) (n : LinkId) : Option Staging := s.staging.filter fun c => c.link != n

/-- The delivery read pointer after link `n`'s descriptors have left the delivery queue: 0 if the head was one of them
(R169, R172). -/
def State.pointerWithout (s : State) (n : LinkId) : Nat :=
  match s.delivery with
  | d :: _ => if s.ofLink n d then 0 else s.readPointer
  | [] => s.readPointer

/-- The descriptors a LINK RESET frees: all of the link's but those still DETACHED (R21). -/
def State.resetReleases (s : State) (n : LinkId) : List DescId :=
  s.descsWhere fun r => r.link == some n && r.state != .free && r.state != .detached

/-- LINK RESET of link `n` (R21, R85, R166, R172, R176, R190). -/
def State.resetLink (n : LinkId) (s : State) : State :=
  let onLine := (s.le n).retention.filter s.isOnLine
  let cleared :=
    { s with
      staging := s.stagingWithout n
      readPointer := s.pointerWithout n
      delivery := s.delivery.filter fun d => !s.ofLink n d
      completion := s.completion.filter fun d => !s.ofLink n d }.modLink n Link.linkReset
  let detached := onLine.foldl (fun s d => s.detach .discard d) cleared
  (detached.resetReleases n).foldl (fun s d => s.releaseToFree d) detached

/-- LINK_RESET (R85, R206). -/
def execLinkReset (link : BitVec 4) (s : State) : Host.Outcome State Fault Refusal :=
  match linkOf link with
  | some n => .next ((s.resetLink n).setResult 4 .done)
  | none => .next (s.setResult 4 .badarg)

end Sys2Proof.Machine
end

