-- ==== Sys2Proof/Machine/Staging.lean ====
section
/-! DEFINITION. The staging context and its commands (sections 8.1 to 8.3), and SET GUARANTEE (R13). -/

namespace Sys2Proof.Machine

/-! ## SET GUARANTEE (R13) -/

/-- The sum of the four guarantees with a new value in place of link `n`'s (R13). -/
def State.guaranteeSum (s : State) (n : LinkId) (v : Nat) : Nat :=
  v + ((allLinks.filter (· != n)).map fun m => (s.link m).guarantee).sum

/-- SET GUARANTEE on link `n`, with the value in ARGUMENT A (R13, R17, R207). -/
def State.setGuarantee (n : LinkId) (s : State) : State :=
  let v := s.argumentA.toNat
  if v ≤ 128 ∧ s.guaranteeSum n v ≤ 128 then
    ((s.modLink n fun l => { l with guarantee := v }).reevaluate).setResult 5 .done
  else s.setResult 5 .badarg

/-- SET_GUARANTEE (R13). -/
def execSetGuarantee (link : BitVec 4) (s : State) : Host.Outcome State Fault Refusal :=
  match linkOf link with
  | some n => .next (s.setGuarantee n)
  | none => .next (s.setResult 5 .badarg)

/-! ## BEGIN (R160) -/

/-- The descriptor that BEGIN's claim fills (R6). -/
def stagedFill (n : LinkId) (len : Nat) (tag : Byte) : Descriptor :=
  { state := .staging, link := some n, direction := some .outbound, length := some len, tag := some tag,
    resends := some 0, seen := some false, resendPending := some false, onLine := some false }

/-- BEGIN with its link number in range and no context open: tests 2 to 5 (R160). -/
def State.beginOn (n : LinkId) (s : State) : State :=
  let len := s.argumentA.toNat
  if !lengthInRange len then s.setResult 6 .badarg
  else if !(s.le n).session.staging then s.setResult 6 .badstate
  else
    match s.claim n len (stagedFill n len s.argumentB) with
    | none => s.setResult 6 .noroom
    | some (d, claimed) =>
      { claimed with
        staging := some { link := n, length := len, tag := s.argumentB, descriptor := d, writeCount := 0 } }.setResult 6
          .done

/-- BEGIN (R160), with the length in ARGUMENT A and the tag in ARGUMENT B (R207). -/
def execBeginStaging (link : BitVec 4) (s : State) : Host.Outcome State Fault Refusal :=
  if s.staging.isSome then .next (s.setResult 6 .busy)
  else
    match linkOf link with
    | some n => .next (s.beginOn n)
    | none => .next (s.setResult 6 .badarg)

/-! ## STAGE DATA (R161, R162) -/

/-- A word is stored in an open context whose write count is below its length (R161). -/
def State.stageWord (c : Staging) (w : Word) (s : State) : State :=
  let low := s.writePayload c.descriptor c.writeCount (w.extractLsb' 0 8)
  if c.writeCount + 1 = c.length then { low with staging := some { c with writeCount := c.writeCount + 1 } }
  else
    { low.writePayload c.descriptor (c.writeCount + 1) (w.extractLsb' 8 8) with
      staging := some { c with writeCount := c.writeCount + 2 } }

/-- STAGE_DATA_WRITE (R161, R162). -/
def execStageDataWrite (w : Word) (s : State) : Host.Outcome State Fault Refusal :=
  match s.staging with
  | some c => if c.writeCount < c.length then .next (s.stageWord c w) else .next (s.setGlobal .stageOverrun)
  | none => .next (s.setGlobal .stageOverrun)

/-! ## COMMIT and CANCEL (R163, R165) -/

/-- COMMIT accepted: the descriptor is SUBMITTED, the context closes and the query condition is tested (R163, R128). -/
def State.submitStaged (c : Staging) (s : State) : State :=
  ({ s with staging := none }.modDesc c.descriptor fun r => { r with state := .submitted }).modLE c.link fun e =>
    { e with submit := e.submit ++ [c.descriptor] }.queryTest

/-- COMMIT with a context open: tests 2 to 5 (R163). -/
def State.commitStaged (c : Staging) (s : State) : State :=
  if c.writeCount < c.length then s.setResult 7 .badarg
  else if !(s.le c.link).session.staging then s.setResult 7 .badstate
  else if Config.windowSize ≤ (s.le c.link).submit.length then s.setResult 7 .busy
  else (s.submitStaged c).setResult 7 .done

/-- COMMIT (R163); the link number of the command word is ignored. -/
def execCommit (_link : BitVec 4) (s : State) : Host.Outcome State Fault Refusal :=
  match s.staging with
  | some c => .next (s.commitStaged c)
  | none => .next (s.setResult 7 .badstate)

/-- CANCEL (R165); the link number of the command word is ignored. -/
def execCancel (_link : BitVec 4) (s : State) : Host.Outcome State Fault Refusal :=
  match s.staging with
  | some c => .next (({ s with staging := none }.releaseToFree c.descriptor).setResult 8 .done)
  | none => .next (s.setResult 8 .badstate)

end Sys2Proof.Machine
end

