-- ==== Sys2Proof/Machine/Statistics.lean ====
section
/-! DEFINITION. Reading and clearing the counters (sections 10.3 and 10.4). -/

namespace Sys2Proof.Machine

/-- The counter number in COUNTER SELECT as a counter; 14 and 15 name none (R197). -/
def State.selectedCounter (s : State) : Option (Fin 14) :=
  if h : s.counterNumber.toNat < 14 then some ⟨s.counterNumber.toNat, h⟩ else none

/-- The word a read of COUNTER VALUE returns (R197). -/
def State.counterWord (s : State) : Word :=
  match s.selectedCounter with
  | some c => BitVec.ofNat 16 ((s.link s.counterLink).counters.get c)
  | none => 0

/-- A read in read-clears mode zeroes the selected counter (R198). -/
def State.zeroSelected (s : State) : State :=
  match s.selectedCounter with
  | some c => s.modLink s.counterLink fun l => { l with counters := l.counters.set c 0 }
  | none => s

/-- COUNTER_VALUE_READ (R197, R198). -/
def execCounterValueRead (s : State) : Host.Outcome State Fault Refusal :=
  .next ((if s.readClears then s.zeroSelected else s).driveData s.counterWord)

/-- A link's fourteen counters become 0 and its half flag is Cleared (R199). -/
def Link.clearCounters (l : Link) : Link := { l with counters := Vector.replicate 14 0, half := false }

/-- CLEAR_COUNTERS (R199). -/
def execClearCounters (link : BitVec 4) (s : State) : Host.Outcome State Fault Refusal :=
  match linkOf link with
  | some n => .next ((s.modLink n Link.clearCounters).setResult 11 .done)
  | none => .next (s.setResult 11 .badarg)

end Sys2Proof.Machine
end

