-- ==== Sys2Proof/Machine/Registers.lean ====
section
/-! DEFINITION. The register window (chapter 11): the word a read of each address returns, the LINK STATUS sequence, and
the writes of registers. -/

namespace Sys2Proof.Machine

/-! ## Layouts (R205) -/

/-- A value in the bits from `lo` up, `width` of them. -/
def field (lo width v : Nat) : Word := BitVec.ofNat 16 (v % 2 ^ width) <<< lo

/-- A flag in bit `lo`. -/
def flagAt (lo : Nat) (b : Bool) : Word := field lo 1 b.toNat

/-- A session state's value. -/
def SessionState.value : SessionState → Nat
  | .closed => 0
  | .opening => 1
  | .open_ => 2
  | .draining => 3
  | .closing => 4

/-- An end cause's value. -/
def EndCause.value : EndCause → Nat
  | .none => 0
  | .normal => 1
  | .closeUnconfirmed => 2
  | .aborted => 3
  | .retryExhausted => 4
  | .openTimeout => 5
  | .peerDrop => 6
  | .peerRestart => 7
  | .lineLost => 8

/-- A drain origin's value; 0 is absent. -/
def originValue : Option DrainOrigin → Nat
  | none => 0
  | some .host => 1
  | some .peer => 2

/-- A link timer mode's value; 0 is STOPPED. -/
def modeValue : Option TimerMode → Nat
  | none => 0
  | some .control => 1
  | some .resend => 2
  | some .query => 3

/-- The seven pending flags. -/
def Pending.word (p : Pending) : Word :=
  flagAt 0 p.drop ||| flagAt 1 p.grant ||| flagAt 2 p.closeAck ||| flagAt 3 p.open_ ||| flagAt 4 p.close |||
    flagAt 5 p.receipt ||| flagAt 6 p.query

/-- The result word (R208). -/
def State.resultWord (s : State) : Word :=
  field 0 3 s.resultCode.value ||| field 4 4 s.resultCommand.toNat ||| flagAt 8 (s.resetCause == .command)

/-- QUEUE COUNTS (R178). -/
def State.queueCounts (s : State) : Word := field 0 7 s.delivery.length ||| field 8 7 s.completion.length

/-- POOL STATUS (R12, R18). -/
def State.poolStatus (s : State) : Word :=
  field 0 8 s.freeBlocks.length ||| field 8 7 s.freeDescs.length ||| flagAt 15 s.armed

/-- LINK STATUS word 0 of a Link Engine. -/
def LinkEngine.status0 (e : LinkEngine) : Word :=
  field 0 3 e.session.value ||| field 3 4 e.epoch.toNat ||| field 7 4 e.endCause.value |||
    field 11 2 (originValue e.drainOrigin) ||| field 13 2 (modeValue e.timerMode)

/-- LINK STATUS word 1 of a Link Engine. -/
def LinkEngine.status1 (e : LinkEngine) : Word :=
  e.pending.word ||| field 7 4 e.dropEpoch.toNat ||| field 11 4 e.retryCount

/-- EVENT SUMMARY (R189). -/
def State.eventSummary (s : State) : Word :=
  flagAt 0 (s.linkSummary 0) ||| flagAt 1 (s.linkSummary 1) ||| flagAt 2 (s.linkSummary 2) |||
    flagAt 3 (s.linkSummary 3) ||| flagAt 4 s.globalSummary

/-- LINK WINDOW word 0 (R113). -/
def LinkEngine.window0 (e : LinkEngine) : Word :=
  field 0 4 e.retention.length ||| field 4 6 e.nextOrdinal.toNat ||| field 10 6 e.oldest.toNat

/-- LINK WINDOW word 1 of link `n` (R113). -/
def State.window1 (s : State) (n : LinkId) : Word :=
  let e := s.le n
  field 0 4 e.submit.length ||| field 4 4 e.peerCredit ||| field 8 4 e.advertised ||| field 12 3 e.heldCount |||
    flagAt 15 (s.hasDetached n)

/-- LINK TIMING word 1, from the programmed set (R64). -/
def Params.timing1 (p : Params) : Word := field 0 4 p.retryLimit ||| field 4 4 p.threshold ||| field 8 8 p.holdTime

/-- LINK MODE, from the programmed set (R64). -/
def Params.mode (p : Params) : Word :=
  field 0 2 p.rank ||| flagAt 2 p.accept ||| flagAt 3 p.reporting ||| flagAt 4 (p.lossAction == .hold)

/-- LINE STATUS (R27, R29, R32). -/
def LineUnit.status (u : LineUnit) : Word :=
  flagAt 0 (u.lineState == .up) ||| flagAt 1 u.breakPresent ||| flagAt 2 (u.tx.phase == .parcel) |||
    flagAt 3 (u.record.phase == .inParcel)

/-- LINK POOL of link `n` (R12). -/
def State.linkPool (s : State) (n : LinkId) : Word := field 0 8 (s.used n) ||| field 8 8 (s.link n).guarantee

/-- STAGE STATUS word 0 (R159). -/
def State.stageStatus0 (s : State) : Word :=
  match s.staging with
  | some c => field 0 8 c.length ||| field 8 2 c.link.val ||| flagAt 15 true
  | none => 0

/-- STAGE STATUS word 1 (R159). -/
def State.stageStatus1 (s : State) : Word :=
  match s.staging with
  | some c => field 0 8 c.writeCount
  | none => 0

/-- A link number field; an absent link reads 0 (R4). -/
def linkValue (l : Option LinkId) : Nat := (l.getD 0).val

/-- DELIVERY STATUS word 0 (R168). -/
def State.deliveryStatus0 (s : State) : Word :=
  match s.delivery with
  | d :: _ =>
    let r := s.desc d
    field 0 8 r.bytes ||| field 8 2 (linkValue r.link) ||| flagAt 10 (r.copy.getD false) |||
      flagAt 11 (r.held.getD false) ||| flagAt 15 true
  | [] => 0

/-- DELIVERY STATUS word 1 (R168). -/
def State.deliveryStatus1 (s : State) : Word :=
  match s.delivery with
  | d :: _ => field 0 6 ((s.desc d).ordinal.getD 0).toNat ||| field 8 4 ((s.desc d).epoch.getD 0).toNat
  | [] => 0

/-- COMPLETION RECORD (R174). -/
def State.completionRecord (s : State) : Word :=
  match s.completion with
  | d :: _ =>
    let r := s.desc d
    field 0 8 (r.tag.getD 0).toNat ||| field 8 4 (r.resends.getD 0) ||| field 12 2 (linkValue r.link) |||
      flagAt 14 (r.outcome == some .abandoned) ||| flagAt 15 true
  | [] => 0

/-- COUNTER SELECT (R197). -/
def State.counterSelect (s : State) : Word := field 0 4 s.counterNumber.toNat ||| field 4 2 s.counterLink.val

/-- STATISTICS CONTROL (R196, R198). -/
def State.statisticsControl (s : State) : Word :=
  flagAt 0 s.readClears ||| flagAt 8 (s.link 0).half ||| flagAt 9 (s.link 1).half ||| flagAt 10 (s.link 2).half |||
    flagAt 11 (s.link 3).half

/-- What a read of LINK STATUS returns: word 0 of the selected link at the first position, the held word at the second
(R203). -/
def State.linkStatusWord (s : State) : Word :=
  match s.statusPosition with
  | .first => (s.le s.linkSelect).status0
  | .second => s.statusHeld

/-- The word that a read of a word address returns (R202). -/
def State.readWord (s : State) (address : BitVec 5) : Word :=
  let l := s.link s.linkSelect
  match address.toNat with
  | 0x00 => s.resultWord
  | 0x01 => s.queueCounts
  | 0x02 => s.poolStatus
  | 0x03 => s.linkStatusWord
  | 0x04 => s.eventSummary
  | 0x05 => s.globalEvents.zeroExtend 16
  | 0x06 => s.globalMask.zeroExtend 16
  | 0x07 => l.events.zeroExtend 16
  | 0x08 => l.mask.zeroExtend 16
  | 0x09 => l.le.window0
  | 0x0A => s.window1 s.linkSelect
  | 0x0B => field 0 6 l.le.expected.toNat
  | 0x0C => BitVec.ofNat 16 l.le.programmed.rto
  | 0x0D => l.le.programmed.timing1
  | 0x0E => l.le.programmed.mode
  | 0x0F => BitVec.ofNat 16 l.lu.divider
  | 0x10 => BitVec.ofNat 16 l.lu.gapLimit
  | 0x11 => BitVec.ofNat 16 l.lu.lossLimit
  | 0x12 => l.lu.status
  | 0x13 => s.linkPool s.linkSelect
  | 0x14 => BitVec.ofNat 16 s.watermark
  | 0x15 => BitVec.ofNat 16 s.prescale
  | 0x16 => s.stageStatus0
  | 0x17 => s.stageStatus1
  | 0x19 => s.deliveryStatus0
  | 0x1A => s.deliveryStatus1
  | 0x1B => s.deliveryWord
  | 0x1C => s.completionRecord
  | 0x1D => s.counterSelect
  | 0x1E => s.counterWord
  | 0x1F => s.statisticsControl
  | _ => 0

/-! ## LINK STATUS and LINK SELECT (R203) -/

/-- LINK_STATUS_READ (R203). -/
def execLinkStatusRead (s : State) : Host.Outcome State Fault Refusal :=
  match s.statusPosition with
  | .first =>
    .next ({ s with statusHeld := (s.le s.linkSelect).status1, statusPosition := .second }.driveData s.linkStatusWord)
  | .second => .next ({ s with statusPosition := .first }.driveData s.linkStatusWord)

/-- The two bits from `lo` up as a link number. -/
def linkBits (w : Word) (lo : Nat) : LinkId := ⟨(w.extractLsb' lo 2).toNat, (w.extractLsb' lo 2).isLt⟩

/-- LINK_SELECT_WRITE: the link is selected, the sequence goes to its first position and the held word is emptied
(R202, R203; log entry 9). -/
def execLinkSelectWrite (w : Word) (s : State) : Host.Outcome State Fault Refusal :=
  .next { s with linkSelect := linkBits w 0, statusPosition := .first, statusHeld := 0 }

/-! ## Events and masks (R181, R187) -/

/-- EVENTS_WRITE (R181). -/
def execEventsWrite (set : EventSet) (w : Word) (s : State) : Host.Outcome State Fault Refusal :=
  match set with
  | .global => .next (s.clearGlobal (w.extractLsb' 0 6))
  | .link => .next (s.clearEvents s.linkSelect (w.extractLsb' 0 7))

/-- MASK_WRITE (R187). -/
def execMaskWrite (set : EventSet) (w : Word) (s : State) : Host.Outcome State Fault Refusal :=
  match set with
  | .global => .next { s with globalMask := w.extractLsb' 0 6 }
  | .link => .next (s.modLink s.linkSelect fun l => { l with mask := w.extractLsb' 0 7 })

/-! ## POOL WATERMARK (R19) -/

/-- A watermark is stored and compared with the free block count at once (R19). -/
def State.writeWatermark (v : Nat) (s : State) : State :=
  if v ≤ s.freeBlocks.length then { s with watermark := v, armed := true }
  else if s.armed then { s with watermark := v, armed := false }.setGlobal .poolLow
  else { s with watermark := v }

/-- POOL_WATERMARK_WRITE (R19). -/
def execPoolWatermarkWrite (w : Word) (s : State) : Host.Outcome State Fault Refusal :=
  .next (s.writeWatermark (clamp 0 128 w.toNat))

/-! ## The registers without a row of their own (R202) -/

/-- Link `n`'s programmed parameters are changed (R64). -/
def State.modProgrammed (n : LinkId) (f : Params → Params) (s : State) : State :=
  s.modLE n fun e => { e with programmed := f e.programmed }

/-- A write to a register without a row of its own; a write to a read-only register is ignored (R202). -/
def State.writeRegister (address : BitVec 5) (w : Word) (s : State) : State :=
  match address.toNat with
  | 0x01 => { s with argumentA := w }
  | 0x02 => { s with argumentB := w.extractLsb' 0 8 }
  | 0x0C => s.modProgrammed s.linkSelect (Params.writeTiming0 w)
  | 0x0D => s.modProgrammed s.linkSelect (Params.writeTiming1 w)
  | 0x0E => s.modProgrammed s.linkSelect (Params.writeMode w)
  | 0x0F => s.modLU s.linkSelect fun u => { u with divider := clamp 3 4095 w.toNat }
  | 0x15 => { s with prescale := clamp 16 65535 w.toNat }
  | 0x1D => { s with counterNumber := w.extractLsb' 0 4, counterLink := linkBits w 4 }
  | 0x1F => { s with readClears := w.getLsbD 0 }
  | _ => s

/-- UNASSIGNED_COMMAND_CODE (R206, R208). A term whose code names a command is not a row of the table; it acts as the
COMMAND write it spells (log entry 12). -/
def execUnassignedCommandCode (code link : BitVec 4) (s : State) : Host.Outcome State Fault Refusal :=
  match code.toNat with
  | 1 => execHostOpen link s
  | 2 => execHostClose link s
  | 3 => execHostAbort link s
  | 4 => execLinkReset link s
  | 5 => execSetGuarantee link s
  | 6 => execBeginStaging link s
  | 7 => execCommit link s
  | 8 => execCancel link s
  | 9 => execRelease link s
  | 10 => execPop link s
  | 11 => execClearCounters link s
  | 15 => execDeviceReset link s
  | _ => .next (s.setResult code .badarg)

/-- REGISTER_WRITE (R202). A term whose address has a row of its own is not this row of the table; it acts as the write
it spells (log entry 12). -/
def execRegisterWrite (address : BitVec 5) (w : Word) (s : State) : Host.Outcome State Fault Refusal :=
  match address.toNat with
  | 0x00 => execUnassignedCommandCode (w.extractLsb' 0 4) (w.extractLsb' 4 4) s
  | 0x03 => execLinkSelectWrite w s
  | 0x05 => execEventsWrite .global w s
  | 0x06 => execMaskWrite .global w s
  | 0x07 => execEventsWrite .link w s
  | 0x08 => execMaskWrite .link w s
  | 0x10 => execLineLimitsWrite .gap w s
  | 0x11 => execLineLimitsWrite .lineLoss w s
  | 0x14 => execPoolWatermarkWrite w s
  | 0x18 => execStageDataWrite w s
  | _ => .next (s.writeRegister address w)

end Sys2Proof.Machine
end

