-- ==== Sys2Proof/Machine/Timers.lean ====
section
/-! DEFINITION. Expiries of the link timer (chapter 6) and of the receipt hold timer (R146). An expiry row is the expiry
itself: it takes effect where its timer runs in its mode and has reached its duration, and does not occur otherwise (R115,
R116, R126, R137; log entry 2). -/

namespace Sys2Proof.Machine

/-- The end cause of an exhaustion, by mode and session state (R119). -/
def exhaustionCause (mode : TimerMode) (session : SessionState) : EndCause :=
  match mode, session with
  | .control, .closing => .closeUnconfirmed
  | .control, _ => .openTimeout
  | .resend, _ => .retryExhausted
  | .query, _ => .retryExhausted

/-- The link timer is exhausted: a DROP of the link's epoch and the session end that keeps it (R119). -/
def State.exhaust (n : LinkId) (mode : TimerMode) (s : State) : State :=
  (s.makeDrop n (s.le n).epoch).endSession n (exhaustionCause mode (s.le n).session) { drop := true }

/-- The handshake parcel of the state is made pending again (R121). -/
def LinkEngine.handshakeAgain (e : LinkEngine) : LinkEngine :=
  match e.session with
  | .opening => { e with pending := { e.pending with open_ := true } }
  | .closing => { e with pending := { e.pending with close := true } }
  | .closed | .open_ | .draining => e

/-- A RETAINED descriptor is marked for resend, unless it is *seen* or *on line* (R124). -/
def State.markResend (d : DescId) (s : State) : State :=
  s.modDesc d fun r =>
    if r.seen = some true ∨ r.onLine = some true then r else { r with resendPending := some true }

/-- What an expiry below the limit does, by mode (R121, R124, R129). -/
def State.expiryEffect (n : LinkId) (mode : TimerMode) (s : State) : State :=
  match mode with
  | .control => s.modLE n LinkEngine.handshakeAgain
  | .resend => (s.le n).retention.foldl (fun s d => s.markResend d) s
  | .query => s.modLE n fun e => { e with pending := { e.pending with query := true } }

/-- The link timer expires: the retry count rises, the expiry is counted, and the limit or the mode decides the rest
(R118, R119, R121, R124, R129). -/
def State.linkTimerExpires (n : LinkId) (mode : TimerMode) (s : State) : State :=
  let counted := (s.modLE n fun e => { e with retryCount := e.retryCount + 1 }).count n .timerExpiry
  if (s.le n).latched.retryLimit ≤ (s.le n).retryCount + 1 then counted.exhaust n mode
  else (counted.expiryEffect n mode).modLE n LinkEngine.restartTimer

/-- An expiry of link `n`'s timer in a mode, if the timer runs in it and has reached its duration: an event taken first that
stops, restarts or holds off the timer leaves no expiry to occur (R115, R116, R126, R131). -/
def State.expireIn (n : LinkId) (mode : TimerMode) (s : State) : State :=
  if (s.le n).timer.any fun t => t.mode == mode && t.over then s.linkTimerExpires n mode else s

/-- CONTROL_EXPIRY (R121). -/
def execControlExpiry (n : LinkId) (s : State) : Host.Outcome State Fault Refusal := .next (s.expireIn n .control)

/-- RESEND_EXPIRY (R124). -/
def execResendExpiry (n : LinkId) (s : State) : Host.Outcome State Fault Refusal := .next (s.expireIn n .resend)

/-- QUERY_EXPIRY (R129). -/
def execQueryExpiry (n : LinkId) (s : State) : Host.Outcome State Fault Refusal := .next (s.expireIn n .query)

/-- RECEIPT_HOLD_EXPIRY (R146). -/
def execReceiptHoldExpiry (n : LinkId) (s : State) : Host.Outcome State Fault Refusal :=
  if (s.le n).holdOver then
    .next ((s.modLE n fun e => { e with holdTimer := none }).makeReceipt n)
  else .next s

end Sys2Proof.Machine
end

