-- ==== Sys2Proof/Machine/Transmit.lean ====
section
/-! DEFINITION. The transmitter (section 2.3): the transmit choice and the contents it fixes (sections 3.6 and 3.7), first
sends and resends (chapter 5), and the ends of transmissions. -/

namespace Sys2Proof.Machine

/-! ## The transmit choice (R56-R58) -/

/-- What a transmit choice takes (R56). -/
inductive Choice where
  | drop
  | grant
  | closeAck
  | open_
  | close
  | receipt
  | resend (d : DescId)
  | firstSend (d : DescId)
  | query
  | nothing
  deriving DecidableEq, Repr

/-- The RETAINED descriptor that a resend takes: the marked one of lowest offset from OU (R58). -/
def State.resendCandidate (s : State) (n : LinkId) : Option DescId :=
  (s.le n).retention.find? fun d => (s.desc d).resendPending == some true

/-- The submit queue head, where the send bound allows its first send (R57). -/
def LinkEngine.sendCandidate (e : LinkEngine) : Option DescId :=
  if e.session.sending && decide (e.retention.length < min 8 e.peerCredit) then e.submit.head? else none

/-- The first candidate available, in the order of R56. -/
def State.choose (s : State) (n : LinkId) : Choice :=
  let e := s.le n
  if e.pending.drop then .drop
  else if e.pending.grant && e.session.live then .grant
  else if e.pending.closeAck then .closeAck
  else if e.pending.open_ && e.session == .opening then .open_
  else if e.pending.close && e.session == .closing then .close
  else if e.pending.receipt && e.session.live then .receipt
  else
    match s.resendCandidate n, e.sendCandidate with
    | some d, _ => .resend d
    | none, some d => .firstSend d
    | none, none => if e.pending.query && e.session.sending then .query else .nothing

/-- The flags whose kind is sent in a session state (R56). -/
def Pending.sentIn (session : SessionState) (p : Pending) : Pending :=
  { drop := p.drop
    grant := p.grant && session.live
    closeAck := p.closeAck
    open_ := p.open_ && session == .opening
    close := p.close && session == .closing
    receipt := p.receipt && session.live
    query := p.query && session.sending }

/-- The pending flags after a choice: every flag Set in a state in which its kind is not sent is Cleared, whatever the choice
takes, and so is the flag of the parcel taken (R55, R56, R71; log entry 26). -/
def Pending.afterChoice (session : SessionState) (c : Choice) (p : Pending) : Pending :=
  let sent := p.sentIn session
  match c with
  | .drop => { sent with drop := false }
  | .grant => { sent with grant := false }
  | .closeAck => { sent with closeAck := false }
  | .open_ => { sent with open_ := false }
  | .close => { sent with close := false }
  | .receipt => { sent with receipt := false }
  | .query => { sent with query := false }
  | .resend _ | .firstSend _ | .nothing => sent

/-! ## Contents (R59-R61, R33) -/

/-- The gap map a receipt carries: the offset-j flag at bit j - 1 is Set where a descriptor is held at j (R61, R212). -/
def LinkEngine.gapMap (e : LinkEngine) : BitVec 7 :=
  (List.range 7).foldl (fun m i => if (e.window.getD i none).isSome then m ||| (1 : BitVec 7) <<< i else m) 0

/-- The payload of descriptor `d`, in payload order (R1). -/
def State.payload (s : State) (d : DescId) : List Byte :=
  (List.range ((s.desc d).length.getD 0)).map (s.readPayload d)

/-- The header and payload of a DATA parcel (R33, R48). -/
def State.dataBytes (s : State) (d : DescId) (copy : Bool) : List Byte :=
  let r := s.desc d
  dataHeader copy (r.epoch.getD 0) (r.ordinal.getD 0) (r.length.getD 0) ++ s.payload d

/-- A parcel starts on link `n`'s line (R32). -/
def State.send (n : LinkId) (bytes : List Byte) (d : Option DescId) (s : State) : State :=
  s.modLU n (LineUnit.sendParcel bytes d)

/-- The last advertised credit is set to the credit of the parcel that starts (R136). -/
def State.advertise (n : LinkId) (credit : Nat) (s : State) : State :=
  s.modLE n fun e => { e with advertised := credit }

/-- An OPEN parcel starts (R59). -/
def State.sendOpen (n : LinkId) (s : State) : State :=
  (s.send n (openHeader (s.le n).epoch (s.le n).latched.rank (s.credit n)) none).advertise n (s.credit n)

/-- A GRANT parcel starts (R59). -/
def State.sendGrant (n : LinkId) (s : State) : State :=
  (s.send n (grantHeader (s.le n).epoch (s.credit n)) none).advertise n (s.credit n)

/-- A CLOSE, CLOSE-ACK or QUERY parcel starts (R60). -/
def State.sendPlain (n : LinkId) (k : Kind) (s : State) : State := s.send n (plainHeader k (s.le n).epoch) none

/-- A DROP parcel starts, with the DROP epoch (R60). -/
def State.sendDrop (n : LinkId) (s : State) : State := s.send n (plainHeader .drop (s.le n).dropEpoch) none

/-- A RECEIPT parcel starts (R61). -/
def State.sendReceipt (n : LinkId) (s : State) : State :=
  let e := s.le n
  (((s.send n (receiptHeader e.epoch e.expected e.gapMap (s.credit n)) none).advertise n (s.credit n)).modLE n
    fun e => { e with accepted := 0, holdTimer := none }).count n .rcptSent

/-- A marked descriptor is sent again (R58, R94). -/
def State.resend (n : LinkId) (d : DescId) (s : State) : State :=
  ((s.modDesc d fun r =>
    { r with resends := r.resends.map fun k => min 15 (k + 1), resendPending := some false, onLine := some true }).send n
      (s.dataBytes d true) (some d)).count n .dataResent

/-- The submit queue head receives its ordinal and epoch and moves to the retention queue (R90). -/
def LinkEngine.moveHead (d : DescId) (e : LinkEngine) : LinkEngine :=
  { e with submit := e.submit.tail, retention := e.retention ++ [d], nextOrdinal := e.nextOrdinal + 1 }

/-- The submit queue head is sent for the first time (R90). -/
def State.firstSend (n : LinkId) (d : DescId) (s : State) : State :=
  let numbered := s.modDesc d fun r =>
    { r with state := .retained, ordinal := some (s.le n).nextOrdinal, epoch := some (s.le n).epoch, onLine := some true }
  ((numbered.modLE n (LinkEngine.moveHead d)).send n (numbered.dataBytes d false) (some d)).count n .dataSent

/-- What the choice takes starts; where it takes nothing, an IDLE does (R32, R56). -/
def State.start (n : LinkId) (c : Choice) (s : State) : State :=
  match c with
  | .drop => s.sendDrop n
  | .grant => s.sendGrant n
  | .closeAck => s.sendPlain n .closeAck
  | .open_ => s.sendOpen n
  | .close => s.sendPlain n .close
  | .receipt => s.sendReceipt n
  | .resend d => s.resend n d
  | .firstSend d => s.firstSend n d
  | .query => s.sendPlain n .query
  | .nothing => s.modLU n LineUnit.toFill

/-- The transmit choice of link `n` (R56). -/
def State.makeChoice (n : LinkId) (s : State) : State :=
  (s.modLE n fun e => { e with pending := e.pending.afterChoice e.session (s.choose n) }).start n (s.choose n)

/-- The transmitter can be at a parcel boundary: in FILL, or at the end of a control parcel (R32). The end of a DATA
parcel is an event of its own, which returns the transmitter to FILL before the choice (R34, R35). -/
def Tx.canChoose (t : Tx) : Bool :=
  match t.phase with
  | .mark => false
  | .fill => true
  | .parcel => t.descriptor.isNone

/-! ## The ends of transmissions (R34, R35) -/

/-- The end of a DATA transmission is reported to the Link Engine: RESEND mode starts if the timer is STOPPED (R123). -/
def LinkEngine.dataEnd (e : LinkEngine) : LinkEngine :=
  if e.session.sending && e.timer.isNone then e.startTimer .resend else e

/-- A copy's transmission has ended and *on line* is Cleared (R34). -/
def State.offLine (d : DescId) (s : State) : State := s.modDesc d fun r => { r with onLine := some false }

/-- A DATA parcel sent whole has ended: what its descriptor's state at that moment asks for (R34, R74, R123). -/
def State.wholeEnd (n : LinkId) (d : DescId) (s : State) : State :=
  match (s.desc d).state with
  | .retained => (s.offLine d).modLE n LinkEngine.dataEnd
  | .detached => (s.completeDetached n d).drainTest n
  | _ => s

/-- A DATA parcel cut short has ended with its ABORT (R35): nothing is reported to the Link Engine. -/
def State.cutEnd (n : LinkId) (d : DescId) (s : State) : State :=
  match (s.desc d).state with
  | .retained => s.offLine d
  | .detached => (s.completeDetached n d).drainTest n
  | _ => s

/-! ## The rows of the table -/

/-- TRANSMIT_CHOICE (R56). -/
def execTransmitChoice (n : LinkId) (s : State) : Host.Outcome State Fault Refusal :=
  if (s.lu n).tx.canChoose then .next (s.makeChoice n) else .next s

/-- TRANSMISSION_END (R34). -/
def execTransmissionEnd (n : LinkId) (s : State) : Host.Outcome State Fault Refusal :=
  match (s.lu n).tx.phase, (s.lu n).tx.descriptor with
  | .parcel, some d => .next ((s.modLU n LineUnit.toFill).wholeEnd n d)
  | _, _ => .next s

/-- ABORT_END (R35); the ABORT that closes a control parcel is followed by FILL and nothing else (log entry 19). -/
def execAbortEnd (n : LinkId) (s : State) : Host.Outcome State Fault Refusal :=
  if (s.lu n).tx.phase = .parcel ∧ (s.lu n).tx.cut = true then
    match (s.lu n).tx.descriptor with
    | some d => .next ((s.modLU n LineUnit.toFill).cutEnd n d)
    | none => .next (s.modLU n LineUnit.toFill)
  else .next s

/-- TRANSMITTER_FILL_START (R36): mark is held for a whole character time first (log entry 2). -/
def execTransmitterFillStart (n : LinkId) (s : State) : Host.Outcome State Fault Refusal :=
  if (s.lu n).tx.markOver then .next (s.modLU n LineUnit.toFill) else .next s

end Sys2Proof.Machine
end

