-- ==== Sys2Proof/Machine/Dispatch.lean ====
section
/-! DEFINITION. One arm for each command: a direct call of its meaning. -/

namespace Sys2Proof.Machine

/-- A command's effect on everything but the queue of waiting commands. -/
def exec (i : Instr) (s : State) : Host.Outcome State Fault Refusal :=
  match i with
  | .hostOpen link => Sys2Proof.Machine.execHostOpen link s
  | .hostClose link => Sys2Proof.Machine.execHostClose link s
  | .hostAbort link => Sys2Proof.Machine.execHostAbort link s
  | .linkReset link => Sys2Proof.Machine.execLinkReset link s
  | .setGuarantee link => Sys2Proof.Machine.execSetGuarantee link s
  | .beginStaging link => Sys2Proof.Machine.execBeginStaging link s
  | .commit link => Sys2Proof.Machine.execCommit link s
  | .cancel link => Sys2Proof.Machine.execCancel link s
  | .release link => Sys2Proof.Machine.execRelease link s
  | .pop link => Sys2Proof.Machine.execPop link s
  | .clearCounters link => Sys2Proof.Machine.execClearCounters link s
  | .deviceReset link => Sys2Proof.Machine.execDeviceReset link s
  | .unassignedCommandCode code link => Sys2Proof.Machine.execUnassignedCommandCode code link s
  | .pinReset => Sys2Proof.Machine.execPinReset s
  | .stageDataWrite word => Sys2Proof.Machine.execStageDataWrite word s
  | .deliveryDataRead => Sys2Proof.Machine.execDeliveryDataRead s
  | .counterValueRead => Sys2Proof.Machine.execCounterValueRead s
  | .linkStatusRead => Sys2Proof.Machine.execLinkStatusRead s
  | .linkSelectWrite word => Sys2Proof.Machine.execLinkSelectWrite word s
  | .eventsWrite set word => Sys2Proof.Machine.execEventsWrite set word s
  | .maskWrite set word => Sys2Proof.Machine.execMaskWrite set word s
  | .poolWatermarkWrite word => Sys2Proof.Machine.execPoolWatermarkWrite word s
  | .lineLimitsWrite limit word => Sys2Proof.Machine.execLineLimitsWrite limit word s
  | .registerWrite address word => Sys2Proof.Machine.execRegisterWrite address word s
  | .receiveCharacter link samples => Sys2Proof.Machine.execReceiveCharacter link samples s
  | .lineBreak link => Sys2Proof.Machine.execLineBreak link s
  | .lineLossExpiry link => Sys2Proof.Machine.execLineLossExpiry link s
  | .gapTimerExpiry link => Sys2Proof.Machine.execGapTimerExpiry link s
  | .receiveData link => Sys2Proof.Machine.execReceiveData link s
  | .receiveReceipt link epoch cumulative gapMap credit => Sys2Proof.Machine.execReceiveReceipt link epoch cumulative gapMap credit s
  | .receiveQuery link epoch => Sys2Proof.Machine.execReceiveQuery link epoch s
  | .receiveOpen link epoch rank credit => Sys2Proof.Machine.execReceiveOpen link epoch rank credit s
  | .receiveGrant link epoch credit => Sys2Proof.Machine.execReceiveGrant link epoch credit s
  | .receiveClose link epoch => Sys2Proof.Machine.execReceiveClose link epoch s
  | .receiveCloseAck link epoch => Sys2Proof.Machine.execReceiveCloseAck link epoch s
  | .receiveDrop link epoch => Sys2Proof.Machine.execReceiveDrop link epoch s
  | .drainComplete link => Sys2Proof.Machine.execDrainComplete link s
  | .transmitChoice link => Sys2Proof.Machine.execTransmitChoice link s
  | .transmissionEnd link => Sys2Proof.Machine.execTransmissionEnd link s
  | .abortEnd link => Sys2Proof.Machine.execAbortEnd link s
  | .transmitterFillStart link => Sys2Proof.Machine.execTransmitterFillStart link s
  | .controlExpiry link => Sys2Proof.Machine.execControlExpiry link s
  | .resendExpiry link => Sys2Proof.Machine.execResendExpiry link s
  | .queryExpiry link => Sys2Proof.Machine.execQueryExpiry link s
  | .receiptHoldExpiry link => Sys2Proof.Machine.execReceiptHoldExpiry link s
  | .rxdReturnsToMark link => Sys2Proof.Machine.execRxdReturnsToMark link s

end Sys2Proof.Machine
end

