-- ==== Sys2Proof/Machine/Tick.lean ====
section
/-! DEFINITION. What one REFCLK period does (R25, R27, R32, R41, R114, R115): the model's choice of what a step does while no
command waits (log entry 1). -/

namespace Sys2Proof.Machine

/-! ## The order of events due in one period (log entry 3) -/

/-- `x` put into a list at position `i`. -/
def insertAt (i : Nat) (x : Instr) (l : List Instr) : List Instr := l.take i ++ x :: l.drop i

/-- The highest position at which `x` may be inserted. A parcel's end comes before the transmit choice of its link,
which is made after it (R32, R35): it goes no further than that choice. -/
def lastPlace (x : Instr) (l : List Instr) : Nat :=
  match x with
  | .transmissionEnd n | .abortEnd n => l.takeWhile (fun c => c != .transmitChoice n) |>.length
  | _ => l.length

/-- The events that fall due in one period, in an order that a free value decides; `i` is the first free value not yet
taken. -/
def arrange (i : Nat) : List Instr → List Instr
  | [] => []
  | x :: rest =>
    let others := arrange (i + 1) rest
    match lastPlace x others with
    | 0 => x :: others
    | m + 1 => insertAt (Config.arrivalOrder i % (m + 2)) x others

/-! ## Timers in TU (R115) -/

/-- The link timer at a TU boundary. -/
def LinkTimer.boundary (t : LinkTimer) : LinkTimer := { t with count := t.count + 1 }

/-- The expiry row of a link timer's mode. -/
def TimerMode.expiry (n : LinkId) : TimerMode → Instr
  | .control => .controlExpiry n
  | .resend => .resendExpiry n
  | .query => .queryExpiry n

/-- A link's TU timers at a TU boundary: each running count rises by 1. -/
def Link.boundary (l : Link) : Link :=
  { l with
    le := { l.le with timer := l.le.timer.map LinkTimer.boundary, holdTimer := l.le.holdTimer.map (· + 1) }
    lu := { l.lu with lossTimer := l.lu.lossTimer.map (· + 1) } }

/-- The expiries of link `n`'s TU timers, after a TU boundary has been counted: a timer expires at the boundary at which
its count reaches its duration (R115, R29, R137). -/
def Link.boundaryDue (n : LinkId) (l : Link) : List Instr :=
  (if l.lu.lossOver then [.lineLossExpiry n] else []) ++
  (match l.le.timer with
    | some t => if t.over then [t.mode.expiry n] else []
    | none => []) ++
  (if l.le.holdOver then [.receiptHoldExpiry n] else [])

/-! ## The gap timer (R41) -/

/-- The gap timer after one more REFCLK period. -/
def LineUnit.gapTick (u : LineUnit) : LineUnit :=
  { u with gapTimer := u.gapTimer.map fun g => { g with elapsed := g.elapsed + 1 } }

/-- The gap timer's expiry, when the gap limit in character times has just passed. -/
def LineUnit.gapDue (n : LinkId) (u : LineUnit) : List Instr :=
  if u.gapOver then [.gapTimerExpiry n] else []

/-! ## The transmitter (R32-R36) -/

/-- The transmitter's character in progress has been sent to its end. -/
def Tx.charEnds (t : Tx) : Bool := decide (Config.charBits * t.bitTime ≤ t.elapsed + 1)

/-- The transmitter after one more REFCLK period. At the end of a character the parcel's next one starts, at the divider
that stands then (R23); where none is left the transmitter starts an IDLE, and the events due say whether a parcel
takes its place (R32). The mark after a reset goes on until TRANSMITTER_FILL_START is taken (R36). -/
def LineUnit.txTick (u : LineUnit) : LineUnit :=
  if u.tx.charEnds then
    match u.tx.phase, u.tx.rest with
    | .parcel, c :: rest => { u with tx := { u.tx with char := c, rest := rest, elapsed := 0, bitTime := u.divider + 1 } }
    | .parcel, [] => { u with tx := { u.tx with elapsed := 0, bitTime := u.divider + 1 } }
    | .fill, _ => u.toFill
    | .mark, _ => { u with tx := { u.tx with elapsed := u.tx.elapsed + 1 } }
  else { u with tx := { u.tx with elapsed := u.tx.elapsed + 1 } }

/-- The transmitter events that fall due in this period. -/
def LineUnit.txDue (n : LinkId) (u : LineUnit) : List Instr :=
  if u.tx.charEnds then
    match u.tx.phase, u.tx.rest with
    | .parcel, _ :: _ => []
    | .parcel, [] =>
      match u.tx.descriptor with
      | some _ => [if u.tx.cut then .abortEnd n else .transmissionEnd n, .transmitChoice n]
      | none => [.transmitChoice n]
    | .fill, _ => [.transmitChoice n]
    | .mark, _ => [.transmitterFillStart n]
  else []

/-! ## One REFCLK period -/

/-- A TU boundary falls in this period (R114). -/
def State.boundaryNow (s : State) : Bool := decide (s.tuLength ≤ s.tuElapsed + 1)

/-- A link after one REFCLK period in which RXD has gone from `prev` to `now`, its timers counted. -/
def Link.tick (boundary prev now : Bool) (l : Link) : Link :=
  let counted := if boundary then l.boundary else l
  { counted with lu := (counted.lu.gapTick.rxTick prev now).txTick }

/-- What falls due on a link in one REFCLK period in which RXD has gone from `prev` to `now`. -/
def Link.due (boundary prev now : Bool) (n : LinkId) (l : Link) : List Instr :=
  (if boundary then l.boundary.boundaryDue n else []) ++ l.lu.gapTick.gapDue n ++ l.lu.rxDue n prev now ++ l.lu.txDue n

/-- What falls due on the four links in one REFCLK period. -/
def State.due (s : State) : List Instr :=
  allLinks.flatMap fun n => (s.link n).due s.boundaryNow (s.rxd.get n).level (s.rxd.get n).next n

/-- One REFCLK period: the timebase, the timers, the recognisers and the transmitters move on, and what falls due waits in
the queue. -/
def State.tick (s : State) : State :=
  { s with
    tuElapsed := if s.boundaryNow then 0 else s.tuElapsed + 1
    tuLength := if s.boundaryNow then s.prescale else s.tuLength
    links := s.links.map fun n l => l.tick s.boundaryNow (s.rxd.get n).level (s.rxd.get n).next
    rxd := s.rxd.map fun _ l => l.tick
    pending := s.pending ++ arrange s.freeIndex s.due
    freeIndex := s.freeIndex + s.due.length }

end Sys2Proof.Machine
end

