-- ==== Sys2Proof/Machine/Step.lean ====
section
/-! DEFINITION. One step of the part. -/

namespace Sys2Proof.Machine

/-- The command at the front of the queue is taken, against the state with the queue's rest. While no command waits,
one REFCLK period passes (log entry 1). -/
def step (s : State) : Host.Outcome State Fault Refusal :=
  match s.pending with
  | c :: rest => exec c { s with pending := rest }
  | [] => .next s.tick

/-- `s` with the command that a word spells put at the front of its queue; unchanged where the word spells none (log
entry 18). -/
def State.withFetchWord (s : State) (nbits w : Nat) : State :=
  match decodeTableWord nbits w with
  | some c => { s with pending := c :: s.pending }
  | none => s

end Sys2Proof.Machine
end

