-- ==== Sys2Proof/Machine/Bus.lean ====
section
/-! DEFINITION. The host's bus, from the strobes to the command (R201): when an access is taken, the row it runs (R202,
R206), and what stands on D15-D0. -/

namespace Sys2Proof.Machine

/-- What the part drives on D15-D0: the word of the read access in progress; `none` is high impedance (R201). -/
def State.dataBus (s : State) : Option Word := s.readData

/-- /CS or /RD is released, or no access is in progress: D15-D0 return to high impedance (R201). -/
def State.releaseBus (s : State) : State := { s with readData := none }

/-- A read access is taken: the word is formed from the addressed register as it then stands and is driven, and the read
has the effect of its row, where it has one (R201, R202). -/
def State.takeRead (address : BitVec 5) (s : State) : Host.Outcome State Fault Refusal :=
  match readRow address with
  | some command => exec command s
  | none => .next (s.driveData (s.readWord address))

/-- A write access is taken: the row of its address and word (R202), which for COMMAND is the command that the word's bits
name (R206). -/
def State.takeWrite (address : BitVec 5) (word : Word) (s : State) : Host.Outcome State Fault Refusal :=
  exec (writeRow address word) s

/-- The start of a bus cycle, where a read is taken (R201). -/
def State.startCycle (c : BusCycle) (s : State) : Host.Outcome State Fault Refusal :=
  match c.access with
  | some (.read address) => s.takeRead address
  | _ => .next s

/-- The end of a bus cycle, where the part stops driving the bus and a write is taken (R201). -/
def State.endCycle (c : BusCycle) (s : State) : Host.Outcome State Fault Refusal :=
  match c.access with
  | some (.write address word) => s.releaseBus.takeWrite address word
  | _ => .next s.releaseBus

end Sys2Proof.Machine
end

