-- ==== Sys2Proof/Safety.lean ====
section
/-! DEFINITION. What every step keeps: the pool's ownership (R2, R3, R5, R7, R8), the watermark condition (R18), the
guarantees (R13), the windows, timers and counts of each link (R80, R87, R89, R91, R118, R134), and the ranges of the
registers (R19, R23, R31, R64, R114); and the terms of the spec in which the statements are written (a release, a session
end, a dropped parcel, a parcel on the line). -/

namespace Sys2Proof.Safety
open Sys2Proof.Machine

/-! ## The pool -/

/-- Every block index stands once, on the free block list or in one descriptor's *blocks* (R2, R3). -/
def BlocksOwned (s : State) : Prop :=
  (s.freeBlocks ++ s.descs.toList.flatMap (·.blocks)).Perm (List.finRange 128)

/-- The free descriptor list holds exactly the FREE descriptors, none twice (R5, R8). -/
def FreeListed (s : State) : Prop :=
  s.freeDescs.Nodup ∧ ∀ d, d ∈ s.freeDescs ↔ (s.desc d).state = .free

/-- A FREE descriptor has no field but *state* (R7); a COMPLETED one holds no blocks (R5, R7). -/
def DescriptorsClean (s : State) : Prop :=
  (∀ d, (s.desc d).state = .free → s.desc d = {}) ∧ ∀ d, (s.desc d).state = .completed → (s.desc d).blocks = []

/-- The pool is in order. -/
def PoolOk (s : State) : Prop := BlocksOwned s ∧ FreeListed s ∧ DescriptorsClean s

/-- The condition is armed exactly while the free block count is at or above the watermark (R18, R19). -/
def WatermarkOk (s : State) : Prop := s.armed = decide (s.watermark ≤ s.freeBlocks.length)

/-- Payloads fit their homes: a descriptor that is neither FREE nor COMPLETED has a length of 1..240 and the ceil(length/64)
blocks for it (R1, R5), the staging context's length is its descriptor's and its write count is at most that (R159), and
the read pointer is at most the length of the delivery queue's head, 0 with the queue empty (R169). -/
def LengthsOk (s : State) : Prop :=
  (∀ d, (s.desc d).state ≠ .free → (s.desc d).state ≠ .completed →
    1 ≤ (s.desc d).bytes ∧ (s.desc d).bytes ≤ 240 ∧ (s.desc d).blocks.length = ((s.desc d).bytes + 63) / 64) ∧
  (∀ c ∈ s.staging.toList, (s.desc c.descriptor).length = some c.length ∧ c.writeCount ≤ c.length) ∧
  s.readPointer ≤ (s.delivery.head?.map fun d => (s.desc d).bytes).getD 0

/-- The sum of the four guarantees never exceeds 128 (R13). -/
def GuaranteesOk (s : State) : Prop := ((allLinks.map fun n => (s.link n).guarantee).sum) ≤ 128

/-! ## A link -/

/-- The parameters of a set are in their ranges (R64). -/
def ParamsOk (p : Params) : Prop :=
  (1 ≤ p.rto ∧ p.rto ≤ 4095) ∧ (1 ≤ p.retryLimit ∧ p.retryLimit ≤ 15) ∧ (1 ≤ p.threshold ∧ p.threshold ≤ 8) ∧
    p.holdTime ≤ 255 ∧ p.rank ≤ 3

/-- The queues, windows and ordinals of a Link Engine (R87, R89, R91, R96, R134-R136). -/
def WindowOk (e : LinkEngine) : Prop :=
  e.submit.length ≤ 8 ∧ e.retention.length ≤ 8 ∧ e.window.length = 7 ∧ e.accepted ≤ 8 ∧ e.peerCredit ≤ 8 ∧
    e.advertised ≤ 8 ∧ (e.session ≠ .closed → offsetFrom e.oldest e.nextOrdinal = e.retention.length)

/-- A CLOSED link has nothing in its queues and windows, and its timers are stopped (R80). -/
def ClosedOk (e : LinkEngine) : Prop :=
  e.session = .closed →
    e.submit = [] ∧ e.retention = [] ∧ e.heldCount = 0 ∧ e.timer = none ∧ e.holdTimer = none ∧ e.drainOrigin = none

/-- The retry count is below the latched retry limit, and both parameter sets are in range (R64, R118). -/
def RetryOk (e : LinkEngine) : Prop :=
  e.retryCount < e.latched.retryLimit ∧ ParamsOk e.programmed ∧ ParamsOk e.latched

/-- The link timer runs in CONTROL mode exactly in OPENING and CLOSING, in RESEND and QUERY mode only in OPEN and
DRAINING, and in QUERY mode only with nothing retained and no credit (R120, R123, R128). -/
def ModeOk (e : LinkEngine) : Prop :=
  (e.timerMode = some .control ↔ e.session = .opening ∨ e.session = .closing) ∧
    (e.timerMode = some .resend ∨ e.timerMode = some .query → e.session.sending = true) ∧
    (e.timerMode = some .query → e.retention = [] ∧ e.peerCredit = 0)

/-- The drain origin is present exactly in DRAINING (section 4.1, R74). -/
def DrainOk (e : LinkEngine) : Prop := e.drainOrigin ≠ none ↔ e.session = .draining

/-- The receiver stores a parcel only while the link has a live session (R39, R44). -/
def StoringOk (l : Link) : Prop :=
  l.le.session.live = false → l.lu.record.storage ≠ some .storing ∧ l.lu.record.descriptor = none

/-- The recogniser receives at a bit time of 4..4,096 REFCLK periods, no further than the stop bit's sample, and measures no
space that is a break already (R23, R25, R27). -/
def RxOk (r : Receiver) : Prop :=
  (match r.phase with
    | .receiving bitTime elapsed _ => 4 ≤ bitTime ∧ bitTime ≤ 4096 ∧ elapsed ≤ 11 * bitTime + bitTime / 2
    | .waiting | .waitMark => True) ∧
  ∀ run ∈ r.space.toList, run.elapsed < 2 * run.charTime

/-- The line's registers and counts are in their ranges (R23, R28, R31). -/
def LineOk (u : LineUnit) : Prop :=
  (3 ≤ u.divider ∧ u.divider ≤ 4095) ∧ (1 ≤ u.gapLimit ∧ u.gapLimit ≤ 255) ∧
    (1 ≤ u.lossLimit ∧ u.lossLimit ≤ 65535) ∧ u.run ≤ 16 ∧ u.record.count ≤ 255 ∧ u.record.credit.getD 0 ≤ 8

/-- A Link Engine and its Line Unit are in order. -/
def LinkOk (l : Link) : Prop :=
  WindowOk l.le ∧ ClosedOk l.le ∧ RetryOk l.le ∧ ModeOk l.le ∧ DrainOk l.le ∧ StoringOk l ∧ LineOk l.lu ∧ RxOk l.lu.rx

/-- All four links are in order. -/
def LinksOk (s : State) : Prop := ∀ n, LinkOk (s.link n)

/-- A counter never leaves its range (R192). -/
def CountersOk (s : State) : Prop := ∀ n c, (s.link n).counters.get c ≤ 65535

/-! ## Ownership (R5) -/

/-- The receive parcel record is in order: in HUNT every other field is absent, a descriptor stands in it exactly in
STORING and not before the *length* byte, and its credit is one that R49 gives (section 2.4). -/
def RecordOk (r : RxRecord) : Prop :=
  (r.phase = .hunt → r = {}) ∧ (r.count ≤ 2 → r.descriptor = none) ∧
    (r.descriptor ≠ none ↔ r.storage = some .storing) ∧ r.credit.getD 0 ≤ 8

/-- The descriptors of link `n` stand where their states say, none twice: in its submit queue, its retention queue, its
receive window, its receive record or its transmitter (R5, R87, R91, R92, R134). -/
def LinkOwns (s : State) (n : LinkId) : Prop :=
  let e := s.le n
  let u := s.lu n
  e.submit.Nodup ∧ e.retention.Nodup ∧ (e.window.filterMap id).Nodup ∧
    ∀ d,
      (d ∈ e.submit ↔ (s.desc d).state = .submitted ∧ (s.desc d).link = some n) ∧
      (d ∈ e.retention ↔ (s.desc d).state = .retained ∧ (s.desc d).link = some n) ∧
      (some d ∈ e.window ↔ (s.desc d).state = .held ∧ (s.desc d).link = some n) ∧
      (u.record.descriptor = some d ↔ (s.desc d).state = .assembling ∧ (s.desc d).link = some n) ∧
      ((s.desc d).link = some n → (s.desc d).state = .detached ∨ (s.desc d).state = .retained ∧ s.isOnLine d = true →
        u.tx.phase = .parcel ∧ u.tx.descriptor = some d)

/-- The shared queues and the staging context hold exactly the DELIVERED, COMPLETED and STAGING descriptors, and every
descriptor that is not FREE names its link (R4, R5, R159, R167, R173). -/
def SharedOwns (s : State) : Prop :=
  s.delivery.Nodup ∧ s.completion.Nodup ∧
    ∀ d,
      (d ∈ s.delivery ↔ (s.desc d).state = .delivered) ∧
      (d ∈ s.completion ↔ (s.desc d).state = .completed) ∧
      (s.staging.any (fun c => decide (c.descriptor = d ∧ (s.desc d).link = some c.link)) = true ↔
        (s.desc d).state = .staging) ∧
      ((s.desc d).link = none ↔ (s.desc d).state = .free)

/-- Every descriptor stands where its state says. -/
def OwnersOk (s : State) : Prop := SharedOwns s ∧ (∀ n, LinkOwns s n) ∧ ∀ n, RecordOk (s.lu n).record

/-- Ordinals stand where the windows put them: the retention queue holds the ordinals from OU on, one after another (R91); a
HELD entry stands at the offset of its ordinal from E (R134); and a parcel being stored has the ordinal of its record,
which a DATA record has from its second header byte on (R6, R38). -/
def OrdinalsOk (s : State) : Prop :=
  ∀ n, let e := s.le n
    let r := (s.lu n).record
    (∀ i : Fin 8, ∀ d ∈ e.retention[i.val]?.toList, (s.desc d).ordinal = some (e.oldest + BitVec.ofNat 6 i.val)) ∧
    (∀ i : Fin 7, ∀ d ∈ (e.window[i.val]?.join).toList,
      (s.desc d).ordinal = some (e.expected + BitVec.ofNat 6 (i.val + 1))) ∧
    (∀ d ∈ r.descriptor.toList, (s.desc d).ordinal = r.ordinal) ∧
    (r.kind = some (.named .data) → 2 ≤ r.count → r.ordinal ≠ none) ∧ (r.descriptor ≠ none → r.ordinal ≠ none)

/-! ## What an event does to the pool -/

/-- From `s` to `t` one descriptor has been released to FREE and nothing else has changed in the pool; every link with a
window update due has its RECEIPT flag Set (R15, R17, R18). -/
def Released (d : DescId) (s t : State) : Prop :=
  t.freeBlocks = s.freeBlocks ++ (s.desc d).blocks ∧ t.freeDescs = s.freeDescs ++ [d] ∧ t.desc d = {} ∧
    (∀ x, x ≠ d → t.desc x = s.desc x) ∧ t.mem = s.mem ∧ t.watermark = s.watermark ∧
    t.armed = (s.armed || decide (s.watermark ≤ t.freeBlocks.length)) ∧
    (∀ m, t.link m = if t.updateDue m then (s.link m).makeReceipt else s.link m)

/-- What the session-end cleanup makes of a descriptor of link `n` (R80). That a COMPLETED descriptor keeps every field but its
blocks, with *on line* Cleared, is the model's reading (log entry 16). -/
def AfterSessionEnd (s : State) (n : LinkId) (d : DescId) : Descriptor :=
  let r := s.desc d
  let e := s.le n
  if r.link = some n then
    match r.state with
    | .submitted | .retained =>
      if r.state = .retained ∧ s.isOnLine d = true then
        { r with state := .detached, outcome := some .abandoned }
      else if e.latched.reporting then
        { r with state := .completed, outcome := some .abandoned, blocks := [], onLine := some false }
      else {}
    | .held | .assembling => {}
    | _ => r
  else r

/-- The session-end cleanup of link `n` releases this descriptor's blocks, or it with them (R15, R16, R80). -/
def releasedAtEnd (s : State) (n : LinkId) (d : DescId) : Bool :=
  let after := (AfterSessionEnd s n d).state
  ((s.desc d).state != .free && (s.desc d).state != .completed) && (after == .free || after == .completed)

/-- The descriptors whose completion records the cleanup appends, in their order: the retention queue in ordinal order
from OU, but for the one on line, then the submit queue in commit order (R80). -/
def abandonedRecords (s : State) (n : LinkId) : List DescId :=
  if (s.le n).latched.reporting then (s.le n).retention.filter (fun d => !s.isOnLine d) ++ (s.le n).submit else []

/-- A receive record of a link whose session has ended or which has been reset: nothing more is stored (R44, R45). That a control
parcel's record stays as it is, and so is handed over at its EOP, is the model's reading (log entry 27). -/
def storageWithdrawn (r : RxRecord) : RxRecord :=
  { r with
    descriptor := none
    storage := if r.storage = some .storing ∨ r.storage = some .refused then some .unstored else r.storage }

/-- A parcel in progress cut short: ABORT follows the character in progress, unless that is its EOP (R35). That a LINK RESET does
so to a control parcel just started too is the model's reading (log entry 28). -/
def parcelCut (t : Tx) : Tx :=
  if t.phase = .parcel ∧ t.cut = false ∧ t.char ≠ .control .eop then { t with rest := [.control .abort], cut := true }
  else t

/-- From `s` to `t` link `n`'s session has ended with a cause, by the cleanup of R80, `drop`, `closeAck` and `grant` being
the flags among those three that stay Set. Releases reach the PPC in ascending descriptor index (R15); DATA in progress is
cut short and the receiver stores nothing more (R35, R44). NORMAL, CLOSE_UNCONFIRMED and ABORTED Set CLOSED, the other causes
FAILED (R82). Where a descriptor has been released, each other link with a window update due has its RECEIPT flag Set
(R17). What a COMPLETED descriptor keeps is the model's reading (log entry 16). -/
def SessionEnded (n : LinkId) (cause : EndCause) (drop closeAck grant : Bool) (dropEpoch : Epoch) (s t : State) : Prop :=
  (t.link n = { s.link n with
    le := { s.le n with
      session := .closed, endCause := cause, timer := none, holdTimer := none, retryCount := 0, submit := [],
      retention := [], window := emptyWindow, accepted := 0, drainOrigin := none, dropEpoch := dropEpoch,
      pending := { drop := drop, closeAck := closeAck, grant := grant } }
    lu := { s.lu n with
      record := storageWithdrawn (s.lu n).record
      tx := if (s.lu n).tx.descriptor ≠ none then parcelCut (s.lu n).tx else (s.lu n).tx }
    events := (s.link n).events |||
      (if cause = .normal ∨ cause = .closeUnconfirmed ∨ cause = .aborted then 0x02 else 0x04) }) ∧
    (∀ d, t.desc d = AfterSessionEnd s n d) ∧
    t.freeDescs = s.freeDescs ++ (List.finRange 64).filter (fun d =>
      decide ((AfterSessionEnd s n d).state = .free) && decide ((s.desc d).state ≠ .free)) ∧
    t.freeBlocks = s.freeBlocks ++ (List.finRange 64).flatMap (fun d =>
      if (AfterSessionEnd s n d).blocks = [] then (s.desc d).blocks else []) ∧
    (WatermarkOk s → WatermarkOk t) ∧
    t.completion = s.completion ++ abandonedRecords s n ∧
    t.globalEvents = (if abandonedRecords s n = [] then s.globalEvents else s.globalEvents ||| 0x02) ∧
    (∀ m, m ≠ n → t.link m =
      if (List.finRange 64).any (releasedAtEnd s n) = true ∧ t.updateDue m = true then (s.link m).makeReceipt
      else s.link m) ∧
    { t with links := s.links, descs := s.descs, freeDescs := s.freeDescs, freeBlocks := s.freeBlocks, armed := s.armed,
             completion := s.completion, globalEvents := s.globalEvents } = s

/-- From `s` to `t` one descriptor has been released and nothing else has changed. -/
def ReleasedOnly (d : DescId) (s t : State) : Prop :=
  Released d s t ∧
    { t with descs := s.descs, freeDescs := s.freeDescs, freeBlocks := s.freeBlocks, armed := s.armed,
             links := s.links } = s

/-- From `s` to `t` an outbound descriptor has completed with its *outcome* already written: with reporting on its blocks
are released and it joins the completion queue as COMPLETED; with reporting off it is released with them (R16). That a COMPLETED
descriptor keeps its other fields, with *on line* Cleared, is the model's reading (log entry 16). -/
def Completed (reporting : Bool) (d : DescId) (s t : State) : Prop :=
  if reporting then
    t.freeBlocks = s.freeBlocks ++ (s.desc d).blocks ∧ t.completion = s.completion ++ [d] ∧
      t.desc d = { s.desc d with state := .completed, blocks := [], onLine := some false } ∧
      (∀ x, x ≠ d → t.desc x = s.desc x) ∧ t.armed = (s.armed || decide (s.watermark ≤ t.freeBlocks.length)) ∧
      (∀ m, t.link m = if t.updateDue m then (s.link m).makeReceipt else s.link m) ∧
      t.globalEvents = s.globalEvents ||| 0x02 ∧
      { t with descs := s.descs, freeBlocks := s.freeBlocks, armed := s.armed, links := s.links,
               completion := s.completion, globalEvents := s.globalEvents } = s
  else ReleasedOnly d s t

/-! ## What the line brings -/

/-- RXD has been at mark: no all-space character is held undecided and no break is present (R27); and no character that a reset
has lost can still be waiting (R46; log entry 22), as none can once a REFCLK period has passed. -/
def Quiet (s : State) (n : LinkId) : Prop :=
  (s.lu n).heldSpace = false ∧ (s.lu n).breakPresent = false ∧ (s.lu n).rx.lost = none

/-- A link after `k` good characters, but for what they say: the run, the line-loss timer, the line state and LINE_UP
(R28, R29). -/
def heard (k : Nat) (l : Link) : Link :=
  { l with
    events := if l.lu.lineState = .down ∧ 16 ≤ l.lu.run + k then l.events ||| 0x20 else l.events
    lu := { l.lu with
      run := min 16 (l.lu.run + k), lossTimer := some 0
      lineState := if 16 ≤ l.lu.run + k then .up else l.lu.lineState } }

/-- The bit time of the character being received, or where none is being received that of the divider, which the next one
will have (R23). That a gap is measured by it is the model's reading (log entry 14). -/
def receivedBitTime (u : LineUnit) : Nat :=
  match u.rx.phase with
  | .receiving bitTime _ _ => bitTime
  | .waiting | .waitMark => u.divider + 1

/-- A link whose gap timer has restarted (R41). Which character time it is measured in is the model's reading of R23 (log
entry 14). -/
def gapRestarted (l : Link) : Link :=
  { l with lu := { l.lu with gapTimer := some { elapsed := 0, charTime := 12 * receivedBitTime l.lu } } }

/-- A link whose receive record is `r` and whose gap timer is stopped. -/
def recordIs (r : RxRecord) (l : Link) : Link := { l with lu := { l.lu with record := r, gapTimer := none } }

/-- A link whose receiver has taken an SOP (R37, R51), its gap timer started in the character time of log entry 14. -/
def parcelOpened (l : Link) : Link := gapRestarted (recordIs { phase := .inParcel, check := 0xFFFF } l)

/-- From `base` to `t` the parcel being received on link `n` has been dropped: its descriptor, if any, is released, the
record is in HUNT, and the drop is counted (R15, R40, R42). -/
def Dropped (n : LinkId) (counter : Counter) (base t : State) : Prop :=
  ∃ m, (match (base.lu n).record.descriptor with
    | none => m = base
    | some d => ReleasedOnly d base m) ∧
    t = (m.modLink n (recordIs {})).count n counter

/-- The same where a parcel is being received; otherwise nothing happens. -/
def DroppedIfOpen (n : LinkId) (counter : Counter) (base t : State) : Prop :=
  if (base.lu n).record.phase = .inParcel then Dropped n counter base t else t = base

/-- From `s` to `t` an UP line has gone DOWN: the run is 0, LINE_DOWN is Set, and with the latched action FAIL a session
ends with LINE_LOST (R29, R30). -/
def LineWentDown (n : LinkId) (s t : State) : Prop :=
  let down := s.modLink n fun l => { l with events := l.events ||| 0x40, lu := { l.lu with lineState := .down, run := 0 } }
  if (s.le n).session ≠ .closed ∧ (s.le n).latched.lossAction = .fail then
    SessionEnded n .lineLost false false false (s.le n).dropEpoch down t
  else t = down

/-- A receive record that passes the format checks at its EOP (R48, R52): the kind is one, the count is that of the kind
and *length*, and the running check is 0. -/
def WholeParcel (r : RxRecord) : Prop :=
  r.check = 0 ∧
    ((r.kind = some (.named .data) ∧ ∃ len, r.length = some len ∧ 1 ≤ len ∧ len ≤ 240 ∧ r.count = 3 + len + 2) ∨
      (r.kind = some (.named .receipt) ∧ r.count = 4 + 2) ∨
      ((r.kind = some (.named .open_) ∨ r.kind = some (.named .grant)) ∧ r.count = 2 + 2) ∨
      ((r.kind = some (.named .query) ∨ r.kind = some (.named .close) ∨ r.kind = some (.named .closeAck) ∨
        r.kind = some (.named .drop)) ∧ r.count = 1 + 2))

/-- The row of the table that hands over the control parcel in a record (R43, R53). -/
def controlRow (n : LinkId) (r : RxRecord) : Option Instr :=
  let epoch := r.epoch.getD 0
  let credit := BitVec.ofNat 8 (r.credit.getD 0)
  match r.kind with
  | some (.named .receipt) => some (.receiveReceipt n epoch (r.cumulative.getD 0) (r.gapMap.getD 0) credit)
  | some (.named .query) => some (.receiveQuery n epoch)
  | some (.named .open_) => some (.receiveOpen n epoch (BitVec.ofNat 2 (r.rank.getD 0)) credit)
  | some (.named .grant) => some (.receiveGrant n epoch credit)
  | some (.named .close) => some (.receiveClose n epoch)
  | some (.named .closeAck) => some (.receiveCloseAck n epoch)
  | some (.named .drop) => some (.receiveDrop n epoch)
  | _ => none

/-- The header bytes of the control parcel that a RECEIVE row hands over, and its link (R48, R212). -/
def controlBytes : Instr → Option (LinkId × List Byte)
  | .receiveReceipt n e k g c => some (n, receiptHeader e k g c.toNat)
  | .receiveQuery n e => some (n, plainHeader .query e)
  | .receiveOpen n e r c => if c.toNat < 16 then some (n, openHeader e r.toNat c.toNat) else none
  | .receiveGrant n e c => some (n, grantHeader e c.toNat)
  | .receiveClose n e => some (n, plainHeader .close e)
  | .receiveCloseAck n e => some (n, plainHeader .closeAck e)
  | .receiveDrop n e => some (n, plainHeader .drop e)
  | _ => none

/-- Commands one after another, up to the first that does not answer a next state. -/
def runAll : List Instr → State → Host.Outcome State Fault Refusal
  | [], s => .next s
  | c :: rest, s =>
    match exec c s with
    | .next t => runAll rest t
    | o => o

/-- What a recogniser recognises over the REFCLK periods whose levels of RXD are listed, RXD being at `prev` before. -/
def recognisedOver (n : LinkId) : Bool → LineUnit → List Bool → List Instr
  | _, _, [] => []
  | prev, u, now :: rest => u.rxDue n prev now ++ recognisedOver n now (u.rxTick prev now) rest

/-! ## What the line is given -/

/-- A link whose transmitter starts a parcel: SOP now, then the bytes, their check bytes and EOP (R32, R33, R50). That the
transmitter holds all of them from this moment is the model's reading (log entry 15). -/
def parcelStarted (bytes : List Byte) (d : Option DescId) (l : Link) : Link :=
  { l with lu := { l.lu with tx := {
    phase := .parcel, char := .control .sop
    rest := (bytes ++ checkBytes (checkOf bytes)).map .data ++ [.control .eop]
    descriptor := d, cut := false, elapsed := 0, bitTime := l.lu.divider + 1 } } }

/-- A link whose transmitter is in FILL at the start of an IDLE (R32). -/
def idleStarted (l : Link) : Link :=
  { l with lu := { l.lu with tx := {
    phase := .fill, char := .control .idle, rest := [], descriptor := none, cut := false, elapsed := 0
    bitTime := l.lu.divider + 1 } } }

/-- A link whose pending flags are `p`. -/
def pendingIs (p : Pending) (l : Link) : Link := { l with le := { l.le with pending := p } }

/-- Link `n`'s transmitter is at a parcel boundary at which a choice is made: in FILL, or at the end of a control parcel;
the end of a DATA parcel is an event of its own, which returns the transmitter to FILL first (R32, R34, R35). -/
def AtBoundary (s : State) (n : LinkId) : Prop :=
  (s.lu n).tx.phase = .fill ∨ (s.lu n).tx.phase = .parcel ∧ (s.lu n).tx.descriptor = none

end Sys2Proof.Safety
end

