-- ==== Sys2Proof/Certificates/Slice0/Obligations.lean ====
section
/-! DEFINITION. The statements for the provers: what each command does, what the resets leave, and what every step
keeps. Each names the rules of spec/ it states. -/

open Sys2Proof Sys2Proof.Machine Sys2Proof.Safety

/-! ## Steps -/

/-- A step takes the command at the front of the queue and runs it on the state with the queue's rest. That what reaches the
part stands in one queue, and that a command comes to run by being put there, is the MODEL'S CHOICE (log entries 4 and 18);
the spec says that each event is taken whole (R11, R69). -/
def Obligations.StepRunsFrontCommand : Prop :=
  ∀ (s : State) (c : Instr) (rest : List Instr), step { s with pending := c :: rest } = exec c { s with pending := rest }

/-- Every command answers a next state in every state. MODEL'S CHOICE (log entries 3, 4 and 22): every command, the two resets
included, leaves the queue of waiting commands and the count of free values taken alone. -/
def Obligations.EveryCommandCompletes : Prop :=
  ∀ (c : Instr) (s : State), ∃ t, exec c s = .next t ∧ t.pending = s.pending ∧ t.freeIndex = s.freeIndex

/-- MODEL'S CHOICE (log entries 1, 3, 6, 21). With no command waiting, one REFCLK period passes: the timebase counts it, a TU
ending at the length it began with (R114); a TU boundary adds 1 to each running TU count (R115); a running gap timer counts it
(R41); the recognisers see the next level of RXD and the transmitters move on; what falls due waits in the queue, each once,
in an order that a free value decides, and at a parcel's end the end before the choice. Nothing else changes. -/
def Obligations.IdleStepCountsOnePeriod : Prop :=
  (∀ s : State, s.pending = [] → ∃ t, step s = .next t ∧
    (if s.tuElapsed + 1 < s.tuLength then t.tuElapsed = s.tuElapsed + 1 ∧ t.tuLength = s.tuLength
      else t.tuElapsed = 0 ∧ t.tuLength = s.prescale) ∧
    (∀ n, t.link n = { s.link n with
      le := { s.le n with
        timer := (s.le n).timer.map fun r => if s.tuElapsed + 1 < s.tuLength then r else { r with count := r.count + 1 }
        holdTimer := (s.le n).holdTimer.map fun c => if s.tuElapsed + 1 < s.tuLength then c else c + 1 }
      lu := LineUnit.txTick (LineUnit.rxTick (s.rxd.get n).level ((s.rxd.get n).coming.headD true) { s.lu n with
        lossTimer := (s.lu n).lossTimer.map fun c => if s.tuElapsed + 1 < s.tuLength then c else c + 1
        gapTimer := (s.lu n).gapTimer.map fun g => { g with elapsed := g.elapsed + 1 } }) }) ∧
    (∀ n, t.rxd.get n =
      { level := (s.rxd.get n).coming.headD true, coming := (s.rxd.get n).coming.drop 1 }) ∧
    s.due.Nodup ∧ t.pending = arrange s.freeIndex s.due ∧ t.freeIndex = s.freeIndex + s.due.length ∧
    { t with links := s.links, rxd := s.rxd, tuElapsed := s.tuElapsed, tuLength := s.tuLength, pending := s.pending,
             freeIndex := s.freeIndex } = s) ∧
  ∀ (i : Nat) (l : List Instr), (arrange i l).Perm l ∧
    ∀ (n : LinkId) (x : Instr), x = .transmissionEnd n ∨ x = .abortEnd n → [x, .transmitChoice n].Sublist l → l.Nodup →
      [x, .transmitChoice n].Sublist (arrange i l)

/-- What falls due on a link in one REFCLK period: the expiries of the TU timers whose counts a TU boundary brings to their
durations (R29, R115, R137), the expiry of a gap timer that this period brings to the gap limit in character times (R41), what
the recogniser recognises and what the transmitter comes to (ReceiverSamplesRxd, TransmitterMovesOn); nothing else. That the
period is an idle step is the model's choice (log entry 1). -/
def Obligations.TimersExpireAtTheirDurations : Prop :=
  ∀ (s : State) (c : Instr),
    let boundary := s.tuLength ≤ s.tuElapsed + 1
    c ∈ s.due ↔ ∃ n : LinkId,
      let u := s.lu n
      let e := s.le n
      (c = .lineLossExpiry n ∧ boundary ∧ ∃ k, u.lossTimer = some k ∧ u.lossLimit ≤ k + 1) ∨
      (c = .receiptHoldExpiry n ∧ boundary ∧ ∃ k, e.holdTimer = some k ∧ e.latched.holdTime ≤ k + 1) ∨
      (boundary ∧ ∃ r, e.timer = some r ∧ r.duration ≤ r.count + 1 ∧
        c = (match r.mode with
          | .control => .controlExpiry n
          | .resend => .resendExpiry n
          | .query => .queryExpiry n)) ∨
      (c = .gapTimerExpiry n ∧ ∃ g, u.gapTimer = some g ∧ u.gapLimit * g.charTime ≤ g.elapsed + 1) ∨
      c ∈ u.rxDue n (s.rxd.get n).level ((s.rxd.get n).coming.headD true) ∨ c ∈ u.txDue n

/-! ## Resets -/

/-- After a pin reset and after a DEVICE RESET the pool is wholly free, whatever it held; the bytes in the blocks are not
cleared (R20). -/
def Obligations.ResetsFreeThePool : Prop :=
  ∀ (c : Instr) (s : State), (c = .pinReset ∨ ∃ l, c = .deviceReset l) → ∃ t, exec c s = .next t ∧
    (∀ d, t.desc d = {}) ∧ t.freeDescs = List.finRange 64 ∧ t.freeBlocks = List.finRange 128 ∧
    (∀ n, t.used n = 0 ∧ (t.link n).guarantee = 0) ∧ t.watermark = 16 ∧ t.armed = true ∧ t.mem = s.mem ∧
    t.staging = none ∧ t.delivery = [] ∧ t.completion = [] ∧ t.readPointer = 0 ∧
    (∀ n, (t.lu n).record = {} ∧ (t.lu n).tx.descriptor = none)

/-- A pin reset and a DEVICE RESET return every link's session to its reset state (R86). -/
def Obligations.ResetsCloseEverySession : Prop :=
  ∀ (c : Instr) (s : State), (c = .pinReset ∨ ∃ l, c = .deviceReset l) → ∃ t, exec c s = .next t ∧
    (∀ n, (t.le n).session = .closed ∧ (t.le n).epoch = 0 ∧ (t.le n).endCause = .none ∧ (t.le n).drainOrigin = none ∧
      (t.le n).programmed = { rto := 200, retryLimit := 6, threshold := 2, holdTime := 10, rank := 0, accept := false,
                              reporting := true, lossAction := .fail } ∧
      (t.le n).latched = (t.le n).programmed ∧
      (t.le n).nextOrdinal = 0 ∧ (t.le n).oldest = 0 ∧ (t.le n).expected = 0 ∧ (t.le n).peerCredit = 0 ∧
      (t.le n).advertised = 0 ∧ (t.le n).retryCount = 0 ∧ (t.le n).accepted = 0 ∧ (t.le n).pending = {} ∧
      (t.le n).dropEpoch = 0 ∧ (t.le n).timer = none ∧ (t.le n).holdTimer = none ∧ (t.le n).submit = [] ∧
      (t.le n).retention = [] ∧ (t.le n).heldCount = 0 ∧ t.linkUp n = false ∧ (t.link n).events = 0) ∧
    (∀ d, t.desc d = {}) ∧ t.freeDescs = List.finRange 64 ∧ t.freeBlocks = List.finRange 128 ∧ t.completion = [] ∧
    (t.resultCode = .done ∧ t.resetCause = (if c = .pinReset then .pin else .command))

/-- A pin reset and a DEVICE RESET Clear every event flag and mask, release /INT, zero every counter and half flag, and
turn read-clears mode off (R191, R200). -/
def Obligations.ResetsClearFlagsAndCounters : Prop :=
  ∀ (c : Instr) (s : State), (c = .pinReset ∨ ∃ l, c = .deviceReset l) → ∃ t, exec c s = .next t ∧
    t.globalEvents = 0 ∧ t.globalMask = 0 ∧ (∀ n, (t.link n).events = 0 ∧ (t.link n).mask = 0) ∧
    t.eventSummary = 0 ∧ t.intAsserted = false ∧ (∀ n k, (t.link n).counters.get k = 0) ∧
    (∀ n, (t.link n).half = false) ∧ t.readClears = false ∧ t.counterLink = 0 ∧ t.counterNumber = 0

/-- A pin reset and a DEVICE RESET return every Line Unit to its reset state: the line DOWN, the timers stopped, no break,
the record in HUNT, the line parameters at 15, 8 and 500, and TXD at mark from the start of one character time at divider 15;
a character being received is lost, and where RXD is at space the receiver waits for mark and measures the space from that
moment (R27, R36, R46). MODEL'S CHOICE (log entry 22): the levels of RXD, present and coming, are inputs, which a reset
leaves alone; and what the clock put into the queue before the reset does nothing after it, the character just sampled and a
break just reached among it, so that mark is held for its whole character time. -/
def Obligations.ResetsReturnLineUnits : Prop :=
  ∀ (c : Instr) (s : State), (c = .pinReset ∨ ∃ l, c = .deviceReset l) → ∃ t, exec c s = .next t ∧
    ∀ n, (t.lu n).lineState = .down ∧ (t.lu n).run = 0 ∧ (t.lu n).lossTimer = none ∧ (t.lu n).gapTimer = none ∧
      (t.lu n).breakPresent = false ∧ (t.lu n).heldSpace = false ∧ (t.lu n).record = {} ∧ (t.lu n).divider = 15 ∧
      (t.lu n).gapLimit = 8 ∧ (t.lu n).lossLimit = 500 ∧ (t.lu n).tx.phase = .mark ∧ (t.lu n).tx.level = true ∧
      (t.lu n).tx.elapsed = 0 ∧ (t.lu n).tx.bitTime = 16 ∧
      t.rxd = s.rxd ∧
      ((s.rxd.get n).level = true → (t.lu n).rx.phase = .waiting ∧ (t.lu n).rx.space = none) ∧
      ((s.rxd.get n).level = false → (t.lu n).rx.phase = .waitMark ∧
        (t.lu n).rx.space = some { elapsed := 0, charTime := 12 * 16 } ∧ exec (.lineBreak n) t = .next t) ∧
      (∀ b x, (s.lu n).rx.phase = .receiving b (11 * b + b / 2) x → exec (.receiveCharacter n x) t = .next t) ∧
      ∀ i ∈ [.rxdReturnsToMark n, .lineLossExpiry n, .gapTimerExpiry n, .controlExpiry n, .resendExpiry n, .queryExpiry n,
        .receiptHoldExpiry n, .transmitChoice n, .transmissionEnd n, .abortEnd n, .transmitterFillStart n],
        exec i t = .next t

/-- The words that the register map gives after a pin reset, address by address, with LINK STATUS word 0 at the first read;
after a DEVICE RESET, whatever link number its word carries, the result word reads 01F0h instead (R202, R206, R208, R210).
After both, LINK SELECT, ARGUMENT A and ARGUMENT B are 0, the LINK STATUS sequence is at its first position with the held
word 0000h, and a TU of 1,600 REFCLK periods begins (R114, R203, R207, R209). -/
def Obligations.ResetRegisterMap : Prop :=
  ∀ (s : State) (l : BitVec 4), ∃ t u, exec .pinReset s = .next t ∧ exec (.deviceReset l) s = .next u ∧
    (List.finRange 32).map (fun a => (t.readWord (BitVec.ofFin a)).toNat) =
      [0x0000, 0x0000, 0xC080, 0x0000, 0x0000, 0x0000, 0x0000, 0x0000, 0x0000, 0x0000, 0x0000, 0x0000, 0x00C8, 0x0A26,
       0x0008, 0x000F, 0x0008, 0x01F4, 0x0000, 0x0000, 0x0010, 0x0640, 0x0000, 0x0000, 0x0000, 0x0000, 0x0000, 0x0000,
       0x0000, 0x0000, 0x0000, 0x0000] ∧
    u.readWord 0 = 0x01F0 ∧ (∀ a, a ≠ 0 → u.readWord a = t.readWord a) ∧
    ∀ v, v = t ∨ v = u → v.linkSelect = 0 ∧ v.argumentA = 0 ∧ v.argumentB = 0 ∧ v.statusPosition = .first ∧
      v.statusHeld = 0 ∧ v.prescale = 1600 ∧ v.tuLength = 1600 ∧ v.tuElapsed = 0

/-! ## The bus and the registers (chapter 11) -/

/-- A bus cycle is an access exactly when /RST is released and one strobe alone comes with /CS; a read is taken although the
other strobe follows, a write is not (R201). The row of a write is that of its address (R202), and for COMMAND the command
that bits 3-0 and the link bits 7-4 of the word name, bits 15-8 ignored (R206). A read forms the addressed register's word,
which the part drives until the cycle ends, whatever other event but a reset or a read is taken meanwhile; a write is taken
at the end of its cycle, and outside a read, under /RST among others, D15-D0 are at high impedance (R201). That the driven
word is kept in a field, and that decodeTableWord reads a word as one written to COMMAND, are the model's choices (log
entries 10 and 18). -/
def Obligations.BusCycleAccess : Prop :=
  (∀ c : BusCycle, c.reset = true ∨ c.read = c.write → c.access = none) ∧
  (∀ c : BusCycle, c.reset = false → c.read = true → c.write = false → c.access = some (.read c.address)) ∧
  (∀ c : BusCycle, c.reset = false → c.read = false → c.write = true →
    c.access = if c.otherStrobe then none else some (.write c.address c.data)) ∧
  (∀ a w, (writeRow a w).wf = true) ∧
  (∀ w : Word,
    let link := BitVec.ofNat 4 (w.toNat / 16 % 16)
    (writeRow 0x00 w = match w.toNat % 16 with
      | 1 => .hostOpen link | 2 => .hostClose link | 3 => .hostAbort link | 4 => .linkReset link
      | 5 => .setGuarantee link | 6 => .beginStaging link | 7 => .commit link | 8 => .cancel link
      | 9 => .release link | 10 => .pop link | 11 => .clearCounters link | 15 => .deviceReset link
      | code => .unassignedCommandCode (BitVec.ofNat 4 code) link) ∧
    writeRow 0x03 w = .linkSelectWrite w ∧ writeRow 0x05 w = .eventsWrite .global w ∧
    writeRow 0x06 w = .maskWrite .global w ∧ writeRow 0x07 w = .eventsWrite .link w ∧
    writeRow 0x08 w = .maskWrite .link w ∧ writeRow 0x10 w = .lineLimitsWrite .gap w ∧
    writeRow 0x11 w = .lineLimitsWrite .lineLoss w ∧ writeRow 0x14 w = .poolWatermarkWrite w ∧
    writeRow 0x18 w = .stageDataWrite w ∧
    ∀ a : BitVec 5, a ∉ [0x00#5, 0x03#5, 0x05#5, 0x06#5, 0x07#5, 0x08#5, 0x10#5, 0x11#5, 0x14#5, 0x18#5] →
      writeRow a w = .registerWrite a w) ∧
  (∀ (w : Word) (s : State), decodeTableWord 16 w.toNat = some (writeRow 0x00 w) ∧
    step (s.withFetchWord 16 w.toNat) = exec (writeRow 0x00 w) s) ∧
  (∀ a : BitVec 5, readRow a =
    if a = 0x03 then some .linkStatusRead else if a = 0x1B then some .deliveryDataRead
    else if a = 0x1E then some .counterValueRead else none) ∧
  (∀ (c : BusCycle) (s : State),
    (c.access = none → s.startCycle c = .next s ∧ s.endCycle c = .next { s with readData := none }) ∧
    (∀ a w, c.access = some (.write a w) →
      s.startCycle c = .next s ∧ s.endCycle c = exec (writeRow a w) { s with readData := none }) ∧
    ∀ a, c.access = some (.read a) → s.endCycle c = .next { s with readData := none } ∧
      ∃ t, s.startCycle c = .next t ∧ t.dataBus = some (s.readWord a) ∧
        (∀ i, readRow a = some i → exec i s = .next t) ∧ (readRow a = none → { t with readData := s.readData } = s)) ∧
  ∀ (i : Instr) (s t : State), exec i s = .next t →
    (i = .pinReset ∨ (∃ l, i = .deviceReset l) → t.dataBus = none) ∧
    (i ≠ .pinReset → (∀ l, i ≠ .deviceReset l) → i.wf = true → i ≠ .linkStatusRead → i ≠ .deliveryDataRead →
      i ≠ .counterValueRead → t.dataBus = s.dataBus)

/-- A write to a register without a row of its own stores its fields clamped, and changes nothing else (R23, R64, R114,
R197, R198, R205, R207), the link acted on being the one in LINK SELECT; a write to an address whose only register is
read-only is ignored (R202). -/
def Obligations.RegisterWritesStoreClamped : Prop :=
  ∀ (w : Word) (s : State),
    exec (.registerWrite 0x01 w) s = .next { s with argumentA := w } ∧
    exec (.registerWrite 0x02 w) s = .next { s with argumentB := BitVec.ofNat 8 (w.toNat % 256) } ∧
    exec (.registerWrite 0x0C w) s = .next (s.modLE s.linkSelect fun e =>
      { e with programmed := { e.programmed with
        rto := if w.toNat = 0 then 1 else if 4095 < w.toNat then 4095 else w.toNat } }) ∧
    exec (.registerWrite 0x0D w) s = .next (s.modLE s.linkSelect fun e =>
      { e with programmed := { e.programmed with
        retryLimit := if w.toNat % 16 = 0 then 1 else w.toNat % 16
        threshold := if w.toNat / 16 % 16 = 0 then 1 else if 8 < w.toNat / 16 % 16 then 8 else w.toNat / 16 % 16
        holdTime := w.toNat / 256 } }) ∧
    exec (.registerWrite 0x0E w) s = .next (s.modLE s.linkSelect fun e =>
      { e with programmed := { e.programmed with
        rank := w.toNat % 4, accept := w.getLsbD 2, reporting := w.getLsbD 3,
        lossAction := if w.getLsbD 4 then .hold else .fail } }) ∧
    exec (.registerWrite 0x0F w) s = .next (s.modLU s.linkSelect fun u =>
      { u with divider := if w.toNat < 3 then 3 else if 4095 < w.toNat then 4095 else w.toNat }) ∧
    exec (.registerWrite 0x15 w) s = .next { s with prescale := if w.toNat < 16 then 16 else w.toNat } ∧
    exec (.registerWrite 0x1D w) s = .next { s with
      counterNumber := BitVec.ofNat 4 (w.toNat % 16), counterLink := Fin.ofNat 4 (w.toNat / 16 % 4) } ∧
    exec (.registerWrite 0x1F w) s = .next { s with readClears := w.getLsbD 0 } ∧
    ∀ a ∈ [0x04#5, 0x09#5, 0x0A#5, 0x0B#5, 0x12#5, 0x13#5, 0x16#5, 0x17#5, 0x19#5, 0x1A#5, 0x1B#5, 0x1C#5, 0x1E#5],
      exec (.registerWrite a w) s = .next s

/-- LINK STATUS is read as two words in turn: the first read answers word 0 and holds word 1 as it then stands, the
second answers the held word; a LINK SELECT write selects the link of its bits 1-0 and restarts the sequence with the
held word emptied (R203; that an emptied held word is 0000h is the model's reading, log entry 9). Both words show their
fields, with the values of the enumerated ones, at the positions of R205. LINKn_UP# is low in OPEN, DRAINING and CLOSING
(R84). -/
def Obligations.LinkStatusSequence : Prop :=
  (∀ s : State, s.statusPosition = .first →
    exec .linkStatusRead s = .next { s with
      readData := some (s.le s.linkSelect).status0, statusHeld := (s.le s.linkSelect).status1,
      statusPosition := .second }) ∧
  (∀ s : State, s.statusPosition = .second →
    exec .linkStatusRead s = .next { s with readData := some s.statusHeld, statusPosition := .first }) ∧
  (∀ (w : Word) (s : State), exec (.linkSelectWrite w) s = .next { s with
    linkSelect := Fin.ofNat 4 (w.toNat % 4), statusPosition := .first, statusHeld := 0 }) ∧
  (∀ e : LinkEngine, e.retryCount ≤ 15 →
    e.status0.toNat =
      (match e.session with | .closed => 0 | .opening => 1 | .open_ => 2 | .draining => 3 | .closing => 4) +
      8 * e.epoch.toNat +
      128 * (match e.endCause with
        | .none => 0 | .normal => 1 | .closeUnconfirmed => 2 | .aborted => 3 | .retryExhausted => 4 | .openTimeout => 5
        | .peerDrop => 6 | .peerRestart => 7 | .lineLost => 8) +
      2048 * (match e.drainOrigin with | none => 0 | some .host => 1 | some .peer => 2) +
      8192 * (match e.timer.map (·.mode) with | none => 0 | some .control => 1 | some .resend => 2 | some .query => 3) ∧
    e.status1.toNat = e.pending.drop.toNat + 2 * e.pending.grant.toNat + 4 * e.pending.closeAck.toNat +
      8 * e.pending.open_.toNat + 16 * e.pending.close.toNat + 32 * e.pending.receipt.toNat +
      64 * e.pending.query.toNat + 128 * e.dropEpoch.toNat + 2048 * e.retryCount) ∧
  ∀ (s : State) (n : LinkId), s.linkUp n = true ↔
    (s.le n).session = .open_ ∨ (s.le n).session = .draining ∨ (s.le n).session = .closing

/-- The word that a read of each register returns, field by field at the positions of R205, the link read being the one in
LINK SELECT (R64, R113, R159, R168, R174, R178, R189, R196, R197, R202, R208); an empty queue and a closed staging context
read 0000h. The remaining addresses, 03h, 18h, 1Bh and 1Eh, have statements of their own. The premises give each field its
range. -/
def Obligations.RegisterReadsShowTheirFields : Prop :=
  ∀ s : State,
    let word := fun a : BitVec 5 => (s.readWord a).toNat
    let l := s.link s.linkSelect
    let e := l.le
    let p := e.programmed
    let u := l.lu
    let bit := fun b : Bool => b.toNat
    (word 0x00 =
      (match s.resultCode with
        | .done => 0 | .busy => 1 | .badarg => 2 | .badstate => 3 | .noroom => 4 | .empty => 5) +
      16 * s.resultCommand.toNat + (match s.resetCause with | .pin => 0 | .command => 256)) ∧
    (s.delivery.length ≤ 64 → s.completion.length ≤ 64 →
      word 0x01 = s.delivery.length + 256 * s.completion.length) ∧
    (s.freeBlocks.length ≤ 128 → s.freeDescs.length ≤ 64 →
      word 0x02 = s.freeBlocks.length + 256 * s.freeDescs.length + 32768 * bit s.armed) ∧
    word 0x04 = s.eventSummary.toNat ∧ word 0x05 = s.globalEvents.toNat ∧ word 0x06 = s.globalMask.toNat ∧
    word 0x07 = l.events.toNat ∧ word 0x08 = l.mask.toNat ∧
    (e.retention.length ≤ 8 →
      word 0x09 = e.retention.length + 16 * e.nextOrdinal.toNat + 1024 * e.oldest.toNat) ∧
    (e.submit.length ≤ 8 → e.peerCredit ≤ 8 → e.advertised ≤ 8 → e.window.length = 7 →
      word 0x0A = e.submit.length + 16 * e.peerCredit + 256 * e.advertised +
        4096 * (e.window.filter Option.isSome).length +
        32768 * (if ∃ d, (s.desc d).state = .detached ∧ (s.desc d).link = some s.linkSelect then 1 else 0)) ∧
    word 0x0B = e.expected.toNat ∧
    (p.rto ≤ 4095 → word 0x0C = p.rto) ∧
    (p.retryLimit ≤ 15 → p.threshold ≤ 8 → p.holdTime ≤ 255 →
      word 0x0D = p.retryLimit + 16 * p.threshold + 256 * p.holdTime) ∧
    (p.rank ≤ 3 → word 0x0E = p.rank + 4 * bit p.accept + 8 * bit p.reporting +
      (match p.lossAction with | .fail => 0 | .hold => 16)) ∧
    (u.divider ≤ 4095 → word 0x0F = u.divider) ∧ (u.gapLimit ≤ 255 → word 0x10 = u.gapLimit) ∧
    (u.lossLimit ≤ 65535 → word 0x11 = u.lossLimit) ∧
    word 0x12 = (match u.lineState with | .up => 1 | .down => 0) + 2 * bit u.breakPresent +
      (if u.tx.phase = .parcel then 4 else 0) + (match u.record.phase with | .inParcel => 8 | .hunt => 0) ∧
    (s.used s.linkSelect ≤ 128 → l.guarantee ≤ 128 → word 0x13 = s.used s.linkSelect + 256 * l.guarantee) ∧
    (s.watermark ≤ 128 → word 0x14 = s.watermark) ∧ (s.prescale ≤ 65535 → word 0x15 = s.prescale) ∧
    (s.staging = none → word 0x16 = 0 ∧ word 0x17 = 0) ∧
    (∀ c, s.staging = some c → c.length ≤ 240 → c.writeCount ≤ 240 →
      word 0x16 = c.length + 256 * c.link.val + 32768 ∧ word 0x17 = c.writeCount) ∧
    (s.delivery = [] → word 0x19 = 0 ∧ word 0x1A = 0) ∧
    (∀ d rest len k o f, s.delivery = d :: rest → (s.desc d).length = some len → len ≤ 240 →
      (s.desc d).link = some k → (s.desc d).ordinal = some o → (s.desc d).epoch = some f →
      word 0x19 = len + 256 * k.val + 1024 * bit ((s.desc d).copy == some true) +
        2048 * bit ((s.desc d).held == some true) + 32768 ∧
      word 0x1A = o.toNat + 256 * f.toNat) ∧
    (s.completion = [] → word 0x1C = 0) ∧
    (∀ d rest tag resends k, s.completion = d :: rest → (s.desc d).tag = some tag → (s.desc d).resends = some resends →
      resends ≤ 15 → (s.desc d).link = some k →
      word 0x1C = tag.toNat + 256 * resends + 4096 * k.val +
        (if (s.desc d).outcome = some .abandoned then 16384 else 0) + 32768) ∧
    word 0x1D = s.counterNumber.toNat + 16 * s.counterLink.val ∧
    word 0x1F = bit s.readClears + 256 * bit (s.link 0).half + 512 * bit (s.link 1).half +
      1024 * bit (s.link 2).half + 2048 * bit (s.link 3).half

/-- A write of 1s to GLOBAL EVENTS or LINK EVENTS Clears exactly the flags at those positions (R181); a write of GLOBAL
MASK or LINK MASK stores every mask bit of the set (R187); neither changes anything else. /INT is asserted exactly while at
least one event flag is Set with its mask enabled, and EVENT SUMMARY shows where (R188, R189). -/
def Obligations.EventFlagsMasksAndInterrupt : Prop :=
  (∀ (w : Word) (s : State),
    (∃ t, exec (.eventsWrite .global w) s = .next t ∧ { t with globalEvents := s.globalEvents } = s ∧
      ∀ i, i < 6 → t.globalEvents.getLsbD i = (s.globalEvents.getLsbD i && !w.getLsbD i)) ∧
    (∃ t, exec (.eventsWrite .link w) s = .next t ∧
      (∃ e, t = s.modLink s.linkSelect fun l => { l with events := e }) ∧
      ∀ i, i < 7 → (t.link s.linkSelect).events.getLsbD i = ((s.link s.linkSelect).events.getLsbD i && !w.getLsbD i)) ∧
    exec (.maskWrite .global w) s = .next { s with globalMask := BitVec.ofNat 6 (w.toNat % 64) } ∧
    exec (.maskWrite .link w) s =
      .next (s.modLink s.linkSelect fun l => { l with mask := BitVec.ofNat 7 (w.toNat % 128) })) ∧
  ∀ s : State,
    (s.intAsserted = true ↔
      (∃ i, i < 6 ∧ s.globalEvents.getLsbD i = true ∧ s.globalMask.getLsbD i = true) ∨
      ∃ n i, i < 7 ∧ (s.link n).events.getLsbD i = true ∧ (s.link n).mask.getLsbD i = true) ∧
    (∀ n : LinkId, s.eventSummary.getLsbD n.val = true ↔
      ∃ i, i < 7 ∧ (s.link n).events.getLsbD i = true ∧ (s.link n).mask.getLsbD i = true) ∧
    (s.eventSummary.getLsbD 4 = true ↔
      ∃ i, i < 6 ∧ s.globalEvents.getLsbD i = true ∧ s.globalMask.getLsbD i = true) ∧
    (s.intAsserted = true ↔ s.eventSummary ≠ 0)

/-- A POOL WATERMARK write stores the value, one above 128 as 128, and compares it with the free block count at once:
at or above arms the condition, below while armed Sets POOL_LOW and disarms it, below while disarmed leaves both
(R19). -/
def Obligations.WatermarkWriteComparesAtOnce : Prop :=
  ∀ (w : Word) (s : State),
    let v := if 128 < w.toNat then 128 else w.toNat
    (v ≤ s.freeBlocks.length → exec (.poolWatermarkWrite w) s = .next { s with watermark := v, armed := true }) ∧
    (s.freeBlocks.length < v → s.armed = true → exec (.poolWatermarkWrite w) s =
      .next { s with watermark := v, armed := false, globalEvents := s.globalEvents ||| 0x04 }) ∧
    (s.freeBlocks.length < v → s.armed = false → exec (.poolWatermarkWrite w) s = .next { s with watermark := v })

/-- A LINE LIMITS write stores its limit clamped; a timer already running is judged against it from its last start, and
where the time already passed reaches it the timer expires at the write, with the effect of its expiry row; a stopped
timer is not affected (R31, R115). -/
def Obligations.LineLimitsWriteTakesEffectAtOnce : Prop :=
  ∀ (w : Word) (s : State),
    (let v := if w.toNat = 0 then 1 else if 255 < w.toNat then 255 else w.toNat
     let written := s.modLU s.linkSelect fun u => { u with gapLimit := v }
     exec (.lineLimitsWrite .gap w) s =
       if ∃ g, (s.lu s.linkSelect).gapTimer = some g ∧ v * g.charTime ≤ g.elapsed then
         exec (.gapTimerExpiry s.linkSelect) written
       else .next written) ∧
    (let v := if w.toNat = 0 then 1 else w.toNat
     let written := s.modLU s.linkSelect fun u => { u with lossLimit := v }
     exec (.lineLimitsWrite .lineLoss w) s =
       if ∃ c, (s.lu s.linkSelect).lossTimer = some c ∧ v ≤ c then exec (.lineLossExpiry s.linkSelect) written
       else .next written)

/-! ## The pool, staging and the queues of the host (chapters 1 and 8) -/

/-- A claim is granted exactly when the free descriptor list is not empty and its blocks are at most the grantable blocks
of the link: the free block count minus the outstanding reserves of the three other links, floored at 0 (R9, R10,
R14). A granted claim takes the head of the free descriptor list and the first ceil(len/64) blocks of the free block list
in their order, fills that descriptor alone, and disarms the watermark condition, Setting POOL_LOW, exactly when it takes
the free block count below the watermark while armed (R2, R6, R8, R18). The credit a link advertises is
min(8, h + min(D, floor(B / 4))): h its HELD count, D the grantable descriptors, B the grantable blocks (R152). *used_L* is
the block count of the link's descriptors that are neither FREE nor COMPLETED (R12), and a window update is due on a link in
OPEN, DRAINING or CLOSING whose last advertised credit is 0 and whose credit is above 0 (R17). -/
def Obligations.ClaimsAndCreditFollowTheGrantableAmounts : Prop :=
  (∀ (s : State) (n : LinkId),
    let grantable := s.freeBlocks.length -
      (((List.finRange 4).filter (fun m => m ≠ n)).map fun m => (s.link m).guarantee - s.used m).sum
    (∀ (len : Nat) (fill : Descriptor), 1 ≤ len →
      ((s.claim n len fill).isSome = true ↔ s.freeDescs ≠ [] ∧ (len + 63) / 64 ≤ grantable)) ∧
    s.credit n = min 8 (((s.le n).window.filter Option.isSome).length + min s.freeDescs.length (grantable / 4)) ∧
    s.used n = ((List.finRange 64).map fun d =>
      if (s.desc d).link = some n ∧ (s.desc d).state ≠ .free ∧ (s.desc d).state ≠ .completed then
        (s.desc d).blocks.length else 0).sum ∧
    (s.updateDue n = true ↔
      ((s.le n).session = .open_ ∨ (s.le n).session = .draining ∨ (s.le n).session = .closing) ∧
        (s.le n).advertised = 0 ∧ 0 < s.credit n)) ∧
  ∀ (s t : State) (n : LinkId) (len : Nat) (fill : Descriptor) (d : DescId), s.claim n len fill = some (d, t) →
    s.freeDescs = d :: t.freeDescs ∧
    t.desc d = { fill with blocks := s.freeBlocks.take ((len + 63) / 64) } ∧
    t.freeBlocks = s.freeBlocks.drop ((len + 63) / 64) ∧
    (∀ x, x ≠ d → t.desc x = s.desc x) ∧
    (if t.freeBlocks.length < s.watermark ∧ s.armed = true then
        t.armed = false ∧ t.globalEvents = s.globalEvents ||| 0x04
      else t.armed = s.armed ∧ t.globalEvents = s.globalEvents) ∧
    { t with descs := s.descs, freeDescs := s.freeDescs, freeBlocks := s.freeBlocks, armed := s.armed,
             globalEvents := s.globalEvents } = s

/-- BEGIN's tests in their order: BUSY with a context open; BADARG for the link number or the length; BADSTATE outside
OPENING and OPEN; NOROOM when the claim is refused, all four with no other effect; otherwise DONE with the claim made,
the descriptor STAGING and the context open on it (R6, R160). -/
def Obligations.BeginTestsInOrder : Prop :=
  ∀ (link : BitVec 4) (s : State),
    let len := s.argumentA.toNat
    (s.staging ≠ none → exec (.beginStaging link) s = .next { s with resultCommand := 6, resultCode := .busy }) ∧
    (s.staging = none →
      (4 ≤ link.toNat ∨ len = 0 ∨ 240 < len →
        exec (.beginStaging link) s = .next { s with resultCommand := 6, resultCode := .badarg }) ∧
      ∀ n : LinkId, link.toNat = n.val → 1 ≤ len → len ≤ 240 →
        ((s.le n).session ≠ .opening ∧ (s.le n).session ≠ .open_ →
          exec (.beginStaging link) s = .next { s with resultCommand := 6, resultCode := .badstate }) ∧
        ((s.le n).session = .opening ∨ (s.le n).session = .open_ →
          ((s.freeDescs = [] ∨ s.grantableBlocks n < (len + 63) / 64) →
            exec (.beginStaging link) s = .next { s with resultCommand := 6, resultCode := .noroom }) ∧
          (s.freeDescs ≠ [] ∧ (len + 63) / 64 ≤ s.grantableBlocks n → ∃ d claimed,
            s.claim n len
              { state := .staging, link := some n, direction := some .outbound, length := some len,
                tag := some s.argumentB, resends := some 0, seen := some false, resendPending := some false,
                onLine := some false } = some (d, claimed) ∧
            exec (.beginStaging link) s = .next { claimed with
              staging := some { link := n, length := len, tag := s.argumentB, descriptor := d, writeCount := 0 },
              resultCommand := 6, resultCode := .done })))

/-- A STAGE DATA write that finds room stores the low byte at payload position *write count* and, if more than one byte is
left, the high byte at the next; the write count rises by the bytes stored, and every other byte of memory and all else
is unchanged (R1, R161). A write that finds nothing to take, the context closed or its write count at its length, is
ignored and Sets STAGE_OVERRUN (R162). A read of the port returns 0000h (R161). -/
def Obligations.StageDataStoresBytes : Prop :=
  (∀ s : State, s.readWord 0x18 = 0) ∧
  (∀ (w : Word) (s : State) (c : Staging), PoolOk s → s.mem.wf → s.staging = some c → c.writeCount < c.length →
    ∃ t, exec (.stageDataWrite w) s = .next t ∧
      { t with mem := s.mem, staging := s.staging } = s ∧
      t.staging = some { c with writeCount := min c.length (c.writeCount + 2) } ∧
      (∀ a, payloadAddress (s.desc c.descriptor).blocks c.writeCount = some a →
        t.mem.read a = BitVec.ofNat 8 (w.toNat % 256)) ∧
      (c.writeCount + 1 < c.length → ∀ a, payloadAddress (s.desc c.descriptor).blocks (c.writeCount + 1) = some a →
        t.mem.read a = BitVec.ofNat 8 (w.toNat / 256)) ∧
      ∀ a, payloadAddress (s.desc c.descriptor).blocks c.writeCount ≠ some a →
        (c.writeCount + 1 < c.length → payloadAddress (s.desc c.descriptor).blocks (c.writeCount + 1) ≠ some a) →
        t.mem.read a = s.mem.read a) ∧
  ∀ (w : Word) (s : State), (s.staging = none ∨ ∃ c, s.staging = some c ∧ c.length ≤ c.writeCount) →
    exec (.stageDataWrite w) s = .next { s with globalEvents := s.globalEvents ||| 0x10 }

/-- COMMIT's tests in their order, whatever link number the command word carries: BADSTATE with the context closed, BADARG
before the payload is complete, BADSTATE outside OPENING and OPEN, BUSY with 8 in the submit queue, all with no other
effect; otherwise the staged descriptor is SUBMITTED at the queue's tail, the context closes, and where the query
condition then holds with the link timer STOPPED the timer starts in QUERY mode (R163, R128). -/
def Obligations.CommitTestsInOrder : Prop :=
  ∀ (link : BitVec 4) (s : State),
    (s.staging = none → exec (.commit link) s = .next { s with resultCommand := 7, resultCode := .badstate }) ∧
    ∀ c, s.staging = some c →
      (c.writeCount < c.length →
        exec (.commit link) s = .next { s with resultCommand := 7, resultCode := .badarg }) ∧
      (c.length ≤ c.writeCount →
        ((s.le c.link).session ≠ .opening ∧ (s.le c.link).session ≠ .open_ →
          exec (.commit link) s = .next { s with resultCommand := 7, resultCode := .badstate }) ∧
        ((s.le c.link).session = .opening ∨ (s.le c.link).session = .open_ →
          (8 ≤ (s.le c.link).submit.length →
            exec (.commit link) s = .next { s with resultCommand := 7, resultCode := .busy }) ∧
          ((s.le c.link).submit.length < 8 → (s.desc c.descriptor).state = .staging →
            exec (.commit link) s = .next (({ s with
              staging := none
              descs := s.descs.set c.descriptor { s.desc c.descriptor with state := .submitted }
              resultCommand := 7
              resultCode := .done }).modLE c.link fun e => { e with
                submit := e.submit ++ [c.descriptor]
                timer :=
                  if e.session = SessionState.open_ ∧ e.retention = [] ∧ e.peerCredit = 0 ∧ e.timer = none then
                    some { mode := .query, duration := e.latched.rto * 2 ^ min e.retryCount 3, count := 0 }
                  else e.timer }))))

/-- CANCEL with a context open releases the staged descriptor with its blocks and closes the context, with it closed it
returns BADSTATE; RELEASE removes the head of the delivery queue, sets the read pointer to 0 and releases the head with its
blocks; POP removes the head of the completion queue and releases its descriptor, which holds no blocks; on an empty queue
both return EMPTY. A refusal changes nothing (R165, R171, R175, R15, R17, R18). -/
def Obligations.CancelReleaseAndPopFreeOne : Prop :=
  ∀ (link : BitVec 4) (s : State),
    (s.staging = none → exec (.cancel link) s = .next { s with resultCommand := 8, resultCode := .badstate }) ∧
    (∀ c, s.staging = some c → (s.desc c.descriptor).state = .staging →
      ∃ t, exec (.cancel link) s = .next t ∧ Released c.descriptor s t ∧ t.staging = none ∧ t.resultCommand = 8 ∧
        t.resultCode = .done ∧
        { t with descs := s.descs, freeDescs := s.freeDescs, freeBlocks := s.freeBlocks, armed := s.armed,
                 links := s.links, staging := s.staging, resultCommand := s.resultCommand,
                 resultCode := s.resultCode } = s) ∧
    (s.delivery = [] → exec (.release link) s = .next { s with resultCommand := 9, resultCode := .empty }) ∧
    (∀ d rest, s.delivery = d :: rest → (s.desc d).state = .delivered →
      ∃ t, exec (.release link) s = .next t ∧ Released d s t ∧ t.delivery = rest ∧ t.readPointer = 0 ∧
        t.resultCommand = 9 ∧ t.resultCode = .done ∧
        { t with descs := s.descs, freeDescs := s.freeDescs, freeBlocks := s.freeBlocks, armed := s.armed,
                 links := s.links, delivery := s.delivery, readPointer := s.readPointer,
                 resultCommand := s.resultCommand, resultCode := s.resultCode } = s) ∧
    (s.completion = [] → exec (.pop link) s = .next { s with resultCommand := 10, resultCode := .empty }) ∧
    ∀ d rest, s.completion = d :: rest → (s.desc d).state = .completed →
      ∃ t, exec (.pop link) s = .next t ∧ Released d s t ∧ t.completion = rest ∧ t.resultCommand = 10 ∧
        t.resultCode = .done ∧
        { t with descs := s.descs, freeDescs := s.freeDescs, freeBlocks := s.freeBlocks, armed := s.armed,
                 links := s.links, completion := s.completion, resultCommand := s.resultCommand,
                 resultCode := s.resultCode } = s

/-- A DELIVERY DATA read returns the head's next two payload bytes, the earlier in the low half, and the pointer rises by
2; the last byte of an odd length comes with 00h above it and raises the pointer by 1; a read that finds nothing yields
0000h, leaves the pointer and Sets READ_OVERRUN (R169, R170). Payload byte i is the byte of parcel memory at byte i mod 64 of
the block at position i / 64 of the descriptor (R1). -/
def Obligations.DeliveryDataReadReturnsBytes : Prop :=
  (∀ (s : State) (d : DescId) (i : Nat) (b : BlockId), (s.desc d).blocks[i / 64]? = some b →
    payloadAddress (s.desc d).blocks i = some (64 * b.val + i % 64) ∧
    s.readPayload d i = s.mem.read (64 * b.val + i % 64)) ∧
  ∀ s : State,
    (∀ d rest len, s.delivery = d :: rest → (s.desc d).length = some len →
      (s.readPointer + 2 ≤ len → ∃ w, exec .deliveryDataRead s =
          .next { s with readPointer := s.readPointer + 2, readData := some w } ∧
        w.toNat = (s.readPayload d s.readPointer).toNat + 256 * (s.readPayload d (s.readPointer + 1)).toNat) ∧
      (s.readPointer + 1 = len → ∃ w, exec .deliveryDataRead s =
          .next { s with readPointer := len, readData := some w } ∧
        w.toNat = (s.readPayload d s.readPointer).toNat) ∧
      (len ≤ s.readPointer → exec .deliveryDataRead s =
        .next { s with globalEvents := s.globalEvents ||| 0x20, readData := some 0 })) ∧
    (s.delivery = [] → exec .deliveryDataRead s =
      .next { s with globalEvents := s.globalEvents ||| 0x20, readData := some 0 })

/-- SET GUARANTEE is refused with BADARG when the value is above 128 or the sum of the four guarantees with it would exceed
128, and nothing changes; otherwise the link's guarantee takes the value at once and every link is re-evaluated (R13,
R17). -/
def Obligations.SetGuaranteeWithinTheSum : Prop :=
  ∀ (link : BitVec 4) (n : LinkId) (s : State), link.toNat = n.val →
    let v := s.argumentA.toNat
    let others := (((List.finRange 4).filter (fun m => m ≠ n)).map fun m => (s.link m).guarantee).sum
    (128 < v ∨ 128 < v + others →
      exec (.setGuarantee link) s = .next { s with resultCommand := 5, resultCode := .badarg }) ∧
    (v ≤ 128 → v + others ≤ 128 → ∃ t, exec (.setGuarantee link) s = .next t ∧
      (∀ m, t.link m = let l := if m = n then { s.link m with guarantee := v } else s.link m
        if t.updateDue m then l.makeReceipt else l) ∧
      { t with links := s.links, resultCommand := s.resultCommand, resultCode := s.resultCode } = s ∧
      t.resultCommand = 5 ∧ t.resultCode = .done)

/-! ## Statistics (chapter 10) -/

/-- A read of COUNTER VALUE answers the selected counter, 0000h for numbers 14 and 15; in read-clears mode an assigned
counter becomes 0 in the same access and nothing else changes (R197, R198). CLEAR COUNTERS zeroes a link's fourteen
counters and Clears its half flag, and changes nothing else but the result (R199). An occurrence raises its counter by 1 up to
65,535, where it stays; one that passes from 32,767 to 32,768 Sets the link's half flag and COUNTER_HALF, and no other does
(R192, R196). -/
def Obligations.CountersCountReadAndClear : Prop :=
  ((∀ s : State,
    (14 ≤ s.counterNumber.toNat → exec .counterValueRead s = .next { s with readData := some 0 }) ∧
    ∀ c : Fin 14, s.counterNumber.toNat = c.val →
      let v := BitVec.ofNat 16 ((s.link s.counterLink).counters.get c)
      (s.readClears = false → exec .counterValueRead s = .next { s with readData := some v }) ∧
      (s.readClears = true → exec .counterValueRead s = .next ({ s with readData := some v }.modLink s.counterLink
        fun l => { l with counters := l.counters.set c 0 }))) ∧
  ∀ (link : BitVec 4) (n : LinkId) (s : State), link.toNat = n.val →
    exec (.clearCounters link) s = .next ({ s with resultCommand := 11, resultCode := .done }.modLink n
      fun l => { l with counters := Vector.replicate 14 0, half := false })) ∧
  ∀ (s : State) (n : LinkId) (c : Counter),
    let v := (s.link n).counters.get c.number
    s.count n c =
      { s with globalEvents := if v = 32767 then s.globalEvents ||| 0x08 else s.globalEvents }.modLink n fun l =>
        { l with counters := l.counters.set c.number (if v < 65535 then v + 1 else 65535),
                 half := l.half || decide (v = 32767) }

/-! ## Sessions (chapter 4) -/

/-- A command that tests its link number returns BADARG for 4..15 and has no other effect; a code that names no command
returns BADARG with its own code and has no other effect (R206, R208). BEGIN tests the open context first (R160). -/
def Obligations.BadLinkNumbersAndCodesRefused : Prop :=
  ∀ (link : BitVec 4) (s : State),
    (4 ≤ link.toNat →
      exec (.hostOpen link) s = .next { s with resultCommand := 1, resultCode := .badarg } ∧
      exec (.hostClose link) s = .next { s with resultCommand := 2, resultCode := .badarg } ∧
      exec (.hostAbort link) s = .next { s with resultCommand := 3, resultCode := .badarg } ∧
      exec (.linkReset link) s = .next { s with resultCommand := 4, resultCode := .badarg } ∧
      exec (.setGuarantee link) s = .next { s with resultCommand := 5, resultCode := .badarg } ∧
      (s.staging = none → exec (.beginStaging link) s = .next { s with resultCommand := 6, resultCode := .badarg }) ∧
      exec (.clearCounters link) s = .next { s with resultCommand := 11, resultCode := .badarg }) ∧
    ∀ code : BitVec 4, code = 0 ∨ code = 0xC ∨ code = 0xD ∨ code = 0xE →
      exec (.unassignedCommandCode code link) s = .next { s with resultCommand := code, resultCode := .badarg }

/-- OPEN on a CLOSED link advances the epoch counter by 1, latches the programmed parameters, sets the ordinals, credits
and counts to 0, Sets OPEN pending, starts the link timer in CONTROL mode with duration RTO and enters OPENING; in any
other state it returns BADSTATE and changes nothing (R65, R66). -/
def Obligations.OpenStartsAnAttempt : Prop :=
  ∀ (link : BitVec 4) (n : LinkId) (s : State), link.toNat = n.val →
    ((s.le n).session = .closed → exec (.hostOpen link) s =
      .next ({ s with resultCommand := 1, resultCode := .done }.modLE n fun e => { e with
        session := .opening, epoch := e.epoch + 1, latched := e.programmed, nextOrdinal := 0, oldest := 0,
        expected := 0, retryCount := 0, peerCredit := 0, advertised := 0, accepted := 0, drainOrigin := none,
        pending := { e.pending with open_ := true },
        timer := some { mode := .control, duration := e.programmed.rto, count := 0 } })) ∧
    ((s.le n).session ≠ .closed →
      exec (.hostOpen link) s = .next { s with resultCommand := 1, resultCode := .badstate })

/-- CLOSE in OPEN enters DRAINING with origin HOST and makes the drain test, which leaves a link whose drain condition does
not hold in DRAINING; in OPENING it ends the attempt with cause NORMAL and no parcel; in CLOSED, DRAINING and CLOSING
it returns BADSTATE and changes nothing (R67, R74, R80). What a COMPLETED descriptor keeps is the model's reading (log
entry 16). -/
def Obligations.CloseDrainsOrAbandons : Prop :=
  ∀ (link : BitVec 4) (n : LinkId) (s : State), link.toNat = n.val → PoolOk s → OwnersOk s →
    ((s.le n).session = .closed ∨ (s.le n).session = .draining ∨ (s.le n).session = .closing →
      exec (.hostClose link) s = .next { s with resultCommand := 2, resultCode := .badstate }) ∧
    ((s.le n).session = .opening → ∃ t, exec (.hostClose link) s = .next t ∧
      SessionEnded n .normal false false false (s.le n).dropEpoch { s with resultCommand := 2, resultCode := .done } t) ∧
    ((s.le n).session = .open_ →
      ((s.le n).submit ≠ [] ∨ (s.le n).retention ≠ [] ∨ s.hasDetached n = true →
        exec (.hostClose link) s = .next ({ s with resultCommand := 2, resultCode := .done }.modLE n fun e =>
          { e with session := .draining, drainOrigin := some .host })) ∧
      ((s.le n).submit = [] → (s.le n).retention = [] → s.hasDetached n = false →
        exec (.hostClose link) s = .next ({ s with resultCommand := 2, resultCode := .done }.modLE n fun e =>
          { e with session := .closing, drainOrigin := none, retryCount := 0,
                   pending := { e.pending with close := true },
                   timer := some { mode := .control, duration := e.latched.rto, count := 0 } })))

/-- ABORT outside CLOSED makes a DROP pending with the epoch counter, an earlier DROP keeping its epoch, and ends the
session with cause ABORTED, keeping that DROP; in CLOSED it returns BADSTATE and changes nothing (R54, R68, R80). What a
COMPLETED descriptor keeps is the model's reading (log entry 16). -/
def Obligations.AbortEndsWithDrop : Prop :=
  ∀ (link : BitVec 4) (n : LinkId) (s : State), link.toNat = n.val → PoolOk s → OwnersOk s →
    ((s.le n).session = .closed →
      exec (.hostAbort link) s = .next { s with resultCommand := 3, resultCode := .badstate }) ∧
    ((s.le n).session ≠ .closed → ∃ t, exec (.hostAbort link) s = .next t ∧
      SessionEnded n .aborted true false false
        (if (s.le n).pending.drop = true then (s.le n).dropEpoch else (s.le n).epoch)
        { s with resultCommand := 3, resultCode := .done } t)

/-- LINK RESET returns its link to CLOSED without a session end: every pending flag and event flag is Cleared, the timers
stop, every descriptor of the link is freed but the one on the line, which is DETACHED with *outcome* DISCARD, and no
completion record is made; the epoch counter, both parameter sets, the ordinals, the credits, the DROP epoch, the
guarantee, the masks and the counters are kept; a parcel in progress is cut short and one being received is stored no
further. The releases reach the PPC in ascending descriptor index, re-arm the watermark condition where they reach it and
bring window updates on the other links; the rest of the part, the LINK STATUS sequence among it, is unchanged
(R15, R17, R18, R21, R35, R45, R85, R166, R172, R176, R190, R203). That a control parcel being received stays CONTROL, to be
handed over at its EOP, and that a control parcel just started is cut short, are the model's readings (log entries 27
and 28). -/
def Obligations.LinkResetClosesWithoutSessionEnd : Prop :=
  ∀ (link : BitVec 4) (n : LinkId) (s : State), link.toNat = n.val → PoolOk s → OwnersOk s →
    let freed := (List.finRange 64).filter fun d =>
      decide ((s.desc d).link = some n ∧ (s.desc d).state ≠ .free ∧ (s.desc d).state ≠ .detached ∧
        ¬ ((s.desc d).state = .retained ∧ s.isOnLine d = true))
    ∃ t, exec (.linkReset link) s = .next t ∧ t.resultCommand = 4 ∧ t.resultCode = .done ∧
      t.le n = { s.le n with
        session := .closed, endCause := .none, drainOrigin := none, pending := {}, timer := none, holdTimer := none,
        retryCount := 0, submit := [], retention := [], window := emptyWindow, accepted := 0 } ∧
      t.link n = { s.link n with
        le := t.le n
        lu := { s.lu n with record := storageWithdrawn (s.lu n).record, tx := parcelCut (s.lu n).tx }
        events := 0 } ∧
      (∀ d, t.desc d =
        if (s.desc d).link = some n then
          if (s.desc d).state = .detached then s.desc d
          else if (s.desc d).state = .retained ∧ s.isOnLine d = true then
            { s.desc d with state := .detached, outcome := some .discard }
          else {}
        else s.desc d) ∧
      t.delivery = s.delivery.filter (fun d => (s.desc d).link ≠ some n) ∧
      t.completion = s.completion.filter (fun d => (s.desc d).link ≠ some n) ∧
      (t.staging = if ∃ c, s.staging = some c ∧ c.link = n then none else s.staging) ∧
      (t.readPointer = if ∃ d, s.delivery.head? = some d ∧ (s.desc d).link = some n then 0 else s.readPointer) ∧
      t.freeDescs = s.freeDescs ++ freed ∧
      t.freeBlocks = s.freeBlocks ++ freed.flatMap (fun d => (s.desc d).blocks) ∧
      t.armed = (s.armed || decide (freed ≠ [] ∧ s.watermark ≤ t.freeBlocks.length)) ∧
      (∀ m, m ≠ n → t.link m =
        if freed ≠ [] ∧ t.updateDue m = true then (s.link m).makeReceipt else s.link m) ∧
      { t with links := s.links, descs := s.descs, freeDescs := s.freeDescs, freeBlocks := s.freeBlocks,
               armed := s.armed, staging := s.staging, readPointer := s.readPointer, delivery := s.delivery,
               completion := s.completion, resultCommand := s.resultCommand, resultCode := s.resultCode } = s

/-- An OPEN parcel taken in CLOSED, judged by the programmed accept enable: accepted, it gives the link its epoch, the start
of R65 with the parcel's credit, GRANT pending, OPEN and the OPENED event; not accepted, it draws a DROP with its epoch,
unless a DROP is pending already (R54, R65, R70). Taken in OPENING: a rank above the latched rank adopts the peer's proposal
and its credit, with GRANT pending, the timer stopped, or started in QUERY mode where the query condition then holds, the
retry count 0 and the OPENED event; an equal rank Sets RANK_CLASH and nothing else; a lower rank is ignored (R71, R128). -/
def Obligations.OpenParcelBeforeASession : Prop :=
  (∀ (n : LinkId) (e : Epoch) (r : BitVec 2) (c : Byte) (s : State), (s.le n).session = .closed →
    ((s.le n).programmed.accept = true → exec (.receiveOpen n e r c) s = .next (s.modLink n fun l => { l with
      events := l.events ||| 0x01
      le := { l.le with
        session := .open_, epoch := e, latched := l.le.programmed, nextOrdinal := 0, oldest := 0, expected := 0,
        retryCount := 0, peerCredit := min 8 c.toNat, advertised := 0, accepted := 0, drainOrigin := none,
        pending := { l.le.pending with grant := true } } })) ∧
    ((s.le n).programmed.accept = false → exec (.receiveOpen n e r c) s = .next (s.modLE n fun k => { k with
      pending := { k.pending with drop := true }
      dropEpoch := if k.pending.drop = true then k.dropEpoch else e }))) ∧
  ∀ (n : LinkId) (e : Epoch) (r : BitVec 2) (c : Byte) (s : State), (s.le n).session = .opening →
    ((s.le n).latched.rank < r.toNat → exec (.receiveOpen n e r c) s = .next (s.modLink n fun l => { l with
      events := l.events ||| 0x01
      le := { l.le with
        session := .open_, epoch := e, peerCredit := min 8 c.toNat, retryCount := 0,
        pending := { l.le.pending with grant := true },
        timer := if l.le.retention = [] ∧ l.le.submit ≠ [] ∧ c = 0 then
          some { mode := .query, duration := l.le.latched.rto, count := 0 } else none } })) ∧
    (r.toNat = (s.le n).latched.rank → exec (.receiveOpen n e r c) s =
      .next (s.modLink n fun l => { l with events := l.events ||| 0x10 })) ∧
    (r.toNat < (s.le n).latched.rank → exec (.receiveOpen n e r c) s = .next s)

/-- An OPEN parcel taken in a live session: with the current epoch it Sets GRANT pending and nothing else; with another it
ends the session with PEER_RESTART and is then taken as in CLOSED, judged by the latched accept enable, in the same
event (R72, R80). What a DROP already pending keeps (log entry 11) and what a COMPLETED descriptor keeps (log entry 16) are
the model's readings. -/
def Obligations.OpenParcelInLiveSession : Prop :=
  ∀ (n : LinkId) (e : Epoch) (r : BitVec 2) (c : Byte) (s : State),
    (s.le n).session = .open_ ∨ (s.le n).session = .draining ∨ (s.le n).session = .closing →
    (e = (s.le n).epoch → exec (.receiveOpen n e r c) s =
      .next (s.modLE n fun k => { k with pending := { k.pending with grant := true } })) ∧
    (e ≠ (s.le n).epoch → PoolOk s → OwnersOk s → ∃ m t, exec (.receiveOpen n e r c) s = .next t ∧
      ((s.le n).latched.accept = true →
        SessionEnded n .peerRestart false false (s.le n).pending.grant (s.le n).dropEpoch s m ∧
        t = m.modLink n fun l => { l with
          events := l.events ||| 0x01
          le := { l.le with
            session := .open_, epoch := e, latched := l.le.programmed, nextOrdinal := 0, oldest := 0, expected := 0,
            peerCredit := min 8 c.toNat, advertised := 0, pending := { l.le.pending with grant := true } } }) ∧
      ((s.le n).latched.accept = false →
        SessionEnded n .peerRestart (s.le n).pending.drop false false (s.le n).dropEpoch s m ∧
        t = m.modLE n fun k => { k with
          pending := { k.pending with drop := true }
          dropEpoch := if k.pending.drop = true then k.dropEpoch else e }))

/-- A GRANT for the link's own proposal takes the credit, stops the timer, or starts it in QUERY mode where the query
condition then holds, sets the retry count to 0, enters OPEN and Sets OPENED; any other GRANT is ignored (R73,
R128). -/
def Obligations.GrantCompletesTheProposal : Prop :=
  ∀ (n : LinkId) (e : Epoch) (c : Byte) (s : State),
    ((s.le n).session = .opening → e = (s.le n).epoch →
      exec (.receiveGrant n e c) s = .next (s.modLink n fun l => { l with
        events := l.events ||| 0x01
        le := { l.le with
          session := .open_, peerCredit := min 8 c.toNat, retryCount := 0,
          timer := if l.le.retention = [] ∧ l.le.submit ≠ [] ∧ c = 0 then
            some { mode := .query, duration := l.le.latched.rto, count := 0 } else none } })) ∧
    ((s.le n).session ≠ .opening ∨ e ≠ (s.le n).epoch → exec (.receiveGrant n e c) s = .next s)

/-- A CLOSE parcel of the current epoch: in OPEN it enters DRAINING with origin PEER, Sets PEER_CLOSING and makes the drain
test, which in a link with nothing to send ends the session with NORMAL and CLOSE-ACK pending; in CLOSING and CLOSED
it Sets CLOSE-ACK pending; in DRAINING and OPENING, and with another epoch, it is ignored (R74, R75). -/
def Obligations.CloseParcelByState : Prop :=
  ∀ (n : LinkId) (e : Epoch) (s : State),
    (e ≠ (s.le n).epoch ∨ (s.le n).session = .draining ∨ (s.le n).session = .opening →
      exec (.receiveClose n e) s = .next s) ∧
    (e = (s.le n).epoch → (s.le n).session = .closing ∨ (s.le n).session = .closed →
      exec (.receiveClose n e) s = .next (s.modLE n fun k => { k with pending := { k.pending with closeAck := true } })) ∧
    (e = (s.le n).epoch → (s.le n).session = .open_ →
      ((s.le n).submit ≠ [] ∨ (s.le n).retention ≠ [] ∨ s.hasDetached n = true →
        exec (.receiveClose n e) s = .next (s.modLink n fun l => { l with
          events := l.events ||| 0x08, le := { l.le with session := .draining, drainOrigin := some .peer } })) ∧
      ((s.le n).submit = [] → (s.le n).retention = [] → s.hasDetached n = false → PoolOk s → OwnersOk s →
        ∃ t, exec (.receiveClose n e) s = .next t ∧ SessionEnded n .normal false true false (s.le n).dropEpoch
          (s.modLink n fun l => { l with events := l.events ||| 0x08 }) t))

/-- A CLOSE-ACK of the current epoch in CLOSING ends the session with NORMAL, a CLOSE-ACK flag Set earlier being Cleared;
a DROP of the current epoch outside CLOSED ends it with PEER_DROP and draws no reply; any other CLOSE-ACK or DROP is
ignored (R76, R78, R80). What a COMPLETED descriptor keeps is the model's reading (log entry 16). -/
def Obligations.CloseAckAndDropEndTheSession : Prop :=
  ∀ (n : LinkId) (e : Epoch) (s : State),
    ((s.le n).session = .closing → e = (s.le n).epoch → PoolOk s → OwnersOk s →
      ∃ t, exec (.receiveCloseAck n e) s = .next t ∧
        SessionEnded n .normal false false false (s.le n).dropEpoch s t) ∧
    ((s.le n).session ≠ .closing ∨ e ≠ (s.le n).epoch → exec (.receiveCloseAck n e) s = .next s) ∧
    ((s.le n).session ≠ .closed → e = (s.le n).epoch → PoolOk s → OwnersOk s →
      ∃ t, exec (.receiveDrop n e) s = .next t ∧
        SessionEnded n .peerDrop false false false (s.le n).dropEpoch s t) ∧
    ((s.le n).session = .closed ∨ e ≠ (s.le n).epoch → exec (.receiveDrop n e) s = .next s)

/-- The drain test acts only in DRAINING with both queues empty and nothing DETACHED: with origin HOST it sends CLOSE and
enters CLOSING under CONTROL mode, with origin PEER it ends the session with NORMAL and CLOSE-ACK pending (R74). -/
def Obligations.DrainMovesOnByOrigin : Prop :=
  ∀ (n : LinkId) (s : State),
    let holds := (s.le n).session = .draining ∧ (s.le n).submit = [] ∧ (s.le n).retention = [] ∧
      ∀ d, (s.desc d).link = some n → (s.desc d).state ≠ .detached
    (holds → (s.le n).drainOrigin = some .host → exec (.drainComplete n) s = .next (s.modLE n fun e => { e with
      session := .closing, drainOrigin := none, retryCount := 0, pending := { e.pending with close := true },
      timer := some { mode := .control, duration := e.latched.rto, count := 0 } })) ∧
    (holds → (s.le n).drainOrigin = some .peer → PoolOk s → OwnersOk s → ∃ t, exec (.drainComplete n) s = .next t ∧
      SessionEnded n .normal false true false (s.le n).dropEpoch s t) ∧
    (¬ holds → exec (.drainComplete n) s = .next s)

/-! ## The line, received (chapters 2 and 3) -/

/-- A recognised character's outcome: faulted with the stop bit at space, with an even count of 1s among data, class and
parity bits, or with class bit 1 and a code that is not assigned; else the data byte or control character (R22, R24,
R26). A character as the transmitter sends it is taken as itself, and no other twelve bits are taken as it. -/
def Obligations.CharacterOutcome : Prop :=
  (∀ x : BitVec 12,
    let ones := ((List.range 10).filter fun i => x.getLsbD (i + 1)).length
    let code := BitVec.ofNat 8 (x.toNat / 2 % 256)
    (x.getLsbD 11 = false → classify x = .faulted) ∧
    (ones % 2 = 0 → classify x = .faulted) ∧
    (x.getLsbD 11 = true → ones % 2 = 1 →
      (x.getLsbD 9 = false → classify x = .good (.data code)) ∧
      (x.getLsbD 9 = true → code ≠ 0xA5 → code ≠ 0x5A → code ≠ 0x96 → code ≠ 0x69 → classify x = .faulted) ∧
      (x.getLsbD 9 = true → code = 0xA5 → classify x = .good (.control .idle)) ∧
      (x.getLsbD 9 = true → code = 0x5A → classify x = .good (.control .sop)) ∧
      (x.getLsbD 9 = true → code = 0x96 → classify x = .good (.control .eop)) ∧
      (x.getLsbD 9 = true → code = 0x69 → classify x = .good (.control .abort)))) ∧
  ∀ (c : LineChar) (x : BitVec 12), x.getLsbD 0 = false → (classify x = .good c ↔ x = c.encode)

/-- The check register starts at FFFFh and takes byte after byte, least significant bit first: it is shifted one place toward
its least significant end, and where the bit fed differs from the one shifted out it is exclusive-ORed with 8408h. A parcel's
bytes followed by its check bytes, low half first, leave the running check at 0000h (R50, R51). -/
def Obligations.CheckSequenceLeavesZero : Prop :=
  checkOf [] = 0xFFFF ∧
  (∀ (bytes : List Byte) (b : Byte), checkOf (bytes ++ [b]) = checkByte (checkOf bytes) b) ∧
  (∀ (r : Word) (b : Byte), checkByte r b = (List.range 8).foldl
    (fun (r : Word) i => if r.getLsbD 0 = b.getLsbD i then r >>> 1 else (r >>> 1) ^^^ 0x8408) r) ∧
  (∀ r : Word, checkBytes r = [r.extractLsb' 0 8, r.extractLsb' 8 8]) ∧
  ∀ bytes : List Byte, checkOf (bytes ++ [(checkOf bytes).extractLsb' 0 8, (checkOf bytes).extractLsb' 8 8]) = 0

/-- In HUNT a false start changes nothing and an all-space character is held undecided; a faulted character sets the run to
0 and is counted; a good one counts for the line state: IDLE does nothing more, SOP opens a parcel, and a stray data
byte, EOP or ABORT is counted as a character fault (R25-R29, R37). In which character time the SOP's gap is measured is the
model's reading (log entry 14). -/
def Obligations.CharactersInHunt : Prop :=
  ∀ (n : LinkId) (s : State), Quiet s n → (s.lu n).record.phase = .hunt →
    (∀ x : BitVec 12, x.getLsbD 0 = true → exec (.receiveCharacter n x) s = .next s) ∧
    exec (.receiveCharacter n 0) s = .next (s.modLU n fun u => { u with heldSpace := true }) ∧
    (∀ x : BitVec 12, x.getLsbD 0 = false → x ≠ 0 → classify x = .faulted →
      exec (.receiveCharacter n x) s = .next ((s.modLU n fun u => { u with run := 0 }).count n .charFaults)) ∧
    exec (.receiveCharacter n (LineChar.control .idle).encode) s = .next (s.modLink n (heard 1)) ∧
    exec (.receiveCharacter n (LineChar.control .sop).encode) s =
      .next (s.modLink n fun l => parcelOpened (heard 1 l)) ∧
    ∀ c : LineChar, c ≠ .control .idle → c ≠ .control .sop →
      exec (.receiveCharacter n c.encode) s = .next ((s.modLink n (heard 1)).count n .charFaults)

/-- A faulted character, an ABORT, an IDLE and an SOP in a parcel end it: the descriptor is released, the drop is counted
under DROP_LINE and the record returns to HUNT, but an SOP opens a new parcel; the gap timer stops or restarts
accordingly (R26, R28, R40, R41). A false start and an all-space character leave the parcel open. In which
character time the new parcel's gap is measured is the model's reading (log entry 14). -/
def Obligations.CharactersThatEndAParcel : Prop :=
  ∀ (n : LinkId) (s : State), Quiet s n → (s.lu n).record.phase = .inParcel →
    (∀ d, (s.lu n).record.descriptor = some d → (s.desc d).state = .assembling) →
    (∀ x : BitVec 12, x.getLsbD 0 = true → exec (.receiveCharacter n x) s = .next s) ∧
    exec (.receiveCharacter n 0) s = .next (s.modLU n fun u => { u with heldSpace := true }) ∧
    (∀ x : BitVec 12, x.getLsbD 0 = false → x ≠ 0 → classify x = .faulted →
      ∃ t, exec (.receiveCharacter n x) s = .next t ∧
        Dropped n .dropLine ((s.modLU n fun u => { u with run := 0 }).count n .charFaults) t) ∧
    (∀ c : ControlChar, c = .idle ∨ c = .abort → ∃ t, exec (.receiveCharacter n (LineChar.control c).encode) s = .next t ∧
      Dropped n .dropLine (s.modLink n fun l => gapRestarted (heard 1 l)) t) ∧
    ∃ t, exec (.receiveCharacter n (LineChar.control .sop).encode) s = .next (t.modLink n parcelOpened) ∧
      Dropped n .dropLine (s.modLink n fun l => gapRestarted (heard 1 l)) t

/-- A data byte in a parcel: it counts for the line state, restarts the gap timer, adds 1 to *count* up to 255 and is taken
into the running check. The first byte gives kind code, epoch and copy flag and decides CONTROL or UNSTORED; the header
bytes after it give their fields as R49 reads them; a payload byte is stored exactly in STORING, at its place (R38, R41,
R47, R49, R51, R212). The *length* byte is StorageDecision's. In which character time the gap is measured is the model's
reading (log entry 14). -/
def Obligations.DataBytesInAParcel : Prop :=
  ∀ (n : LinkId) (s : State) (b : Byte), Quiet s n → (s.lu n).record.phase = .inParcel →
    let r := (s.lu n).record
    let taken := { r with count := min 255 (r.count + 1), check := checkByte r.check b }
    let becomes := fun (r' : RxRecord) => exec (.receiveCharacter n (LineChar.data b).encode) s =
      .next (s.modLink n fun l => let h := gapRestarted (heard 1 l); { h with lu := { h.lu with record := r' } })
    (∀ check, r = { phase := .inParcel, check := check } →
      let first := { taken with epoch := some (BitVec.ofNat 4 (b.toNat / 16)), copy := some (b.getLsbD 3) }
      (b.toNat % 8 = 0 → becomes { first with kind := some (.named .data) }) ∧
      (b.toNat % 8 ≠ 0 → b.getLsbD 3 = true →
        becomes { first with kind := some .unnamed, storage := some .unstored }) ∧
      ∀ k : Kind, b.toNat % 8 = k.value.toNat → k ≠ .data → b.getLsbD 3 = false →
        becomes { first with kind := some (.named k), storage := some .control }) ∧
    (r.kind = some (.named .data) → r.count = 1 → r.storage = none →
      becomes { taken with ordinal := some (BitVec.ofNat 6 (b.toNat % 64)) }) ∧
    (r.kind = some (.named .receipt) → r.storage = some .control →
      (r.count = 1 → becomes { taken with cumulative := some (BitVec.ofNat 6 (b.toNat % 64)) }) ∧
      (r.count = 2 → becomes { taken with gapMap := some (BitVec.ofNat 7 (b.toNat % 128)) }) ∧
      (r.count = 3 → becomes { taken with credit := some (min 8 b.toNat) })) ∧
    (r.kind = some (.named .open_) → r.storage = some .control → r.count = 1 →
      becomes { taken with credit := some (min 8 (b.toNat % 16)), rank := some (b.toNat / 16 % 4) }) ∧
    (r.kind = some (.named .grant) → r.storage = some .control → r.count = 1 →
      becomes { taken with credit := some (min 8 b.toNat) }) ∧
    (∀ k : Kind, r.kind = some (.named k) → k ≠ .data → r.storage = some .control → k.headerLength ≤ r.count →
      becomes taken) ∧
    (r.storage = some .unstored ∨ r.storage = some .refused →
      r.kind = some (.named .data) ∧ 3 ≤ r.count ∨ r.kind = some .unnamed ∧ 1 ≤ r.count → becomes taken) ∧
    (∀ d len, r.kind = some (.named .data) → r.storage = some .storing → r.descriptor = some d →
      r.length = some len → 3 ≤ r.count → s.mem.wf →
      let heardByte := s.modLink n fun l =>
        let h := gapRestarted (heard 1 l); { h with lu := { h.lu with record := taken } }
      (r.count < 3 + len → ∀ a, payloadAddress (s.desc d).blocks (r.count - 3) = some a →
        ∃ mem : Memory, exec (.receiveCharacter n (LineChar.data b).encode) s = .next { heardByte with mem := mem } ∧
          ∀ x, mem.read x = if x = a then b else s.mem.read x) ∧
      (3 + len ≤ r.count → becomes taken))

/-- The *length* byte of DATA decides *storage*: outside 1..240, or with the session CLOSED or OPENING, UNSTORED; else the
link claims one descriptor and ceil(length/64) blocks, filled from the record, STORING when granted and REFUSED when not,
whatever the parcel's epoch (R6, R38, R39). In which character time the gap is measured is the model's reading (log
entry 14). -/
def Obligations.StorageDecision : Prop :=
  ∀ (n : LinkId) (s : State) (b : Byte), Quiet s n → (s.lu n).record.phase = .inParcel →
    let r := (s.lu n).record
    let st := (s.le n).session
    r.kind = some (.named .data) → r.count = 2 → r.descriptor = none →
    let taken := { r with count := 3, check := checkByte r.check b, length := some b.toNat }
    let heardByte := s.modLink n fun l =>
      let h := gapRestarted (heard 1 l); { h with lu := { h.lu with record := taken } }
    let decided := fun (storage : Storage) (d : Option DescId) (t : State) => t.modLU n fun u =>
      { u with record := { taken with storage := some storage, descriptor := d } }
    (b.toNat = 0 ∨ 240 < b.toNat ∨ st = .closed ∨ st = .opening →
      exec (.receiveCharacter n (LineChar.data b).encode) s = .next (decided .unstored none heardByte)) ∧
    (1 ≤ b.toNat → b.toNat ≤ 240 → st = .open_ ∨ st = .draining ∨ st = .closing →
      let fill : Descriptor := { state := .assembling, link := some n, direction := some .inbound, length := some b.toNat,
                                 epoch := r.epoch, ordinal := r.ordinal, copy := r.copy, held := some false }
      (s.claim n b.toNat fill = none →
        exec (.receiveCharacter n (LineChar.data b).encode) s = .next (decided .refused none heardByte)) ∧
      ∀ d t, s.claim n b.toNat fill = some (d, t) → ∃ u, heardByte.claim n b.toNat fill = some (d, u) ∧
        exec (.receiveCharacter n (LineChar.data b).encode) s = .next (decided .storing (some d) u))

/-- EOP in a parcel: a parcel that fails a format check is dropped under DROP_FORMAT with its descriptor released; one that
passes is handed over: STORING as RECEIVE_DATA, CONTROL as the row of its kind, REFUSED as a NOMEM drop with a receipt
pending in a live session, UNSTORED as a NOSESSION drop, which in CLOSED draws a DROP with its epoch; the record returns to
HUNT and the gap timer stops in the same event (R42, R43, R52, R53, R148). -/
def Obligations.EopEndsAParcel : Prop :=
  ∀ (n : LinkId) (s : State), Quiet s n → (s.lu n).record.phase = .inParcel →
    let r := (s.lu n).record
    let e := s.le n
    let taken := s.modLink n fun l => gapRestarted (heard 1 l)
    let hunt := s.modLink n fun l => recordIs {} (heard 1 l)
    let eop := exec (.receiveCharacter n (LineChar.control .eop).encode) s
    (¬ WholeParcel r → (∀ d, r.descriptor = some d → (s.desc d).state = .assembling) →
      ∃ t, eop = .next t ∧ Dropped n .dropFormat taken t) ∧
    (WholeParcel r →
      (∀ d, r.storage = some .storing → r.descriptor = some d →
        e.session = .open_ ∨ e.session = .draining ∨ e.session = .closing → eop = exec (.receiveData n) taken) ∧
      (∀ i, r.storage = some .control → r.credit.getD 0 ≤ 8 → r.rank.getD 0 ≤ 3 → controlRow n r = some i →
        eop = exec i hunt) ∧
      (r.storage = some .refused → eop = .next
        (if e.session = .open_ ∨ e.session = .draining ∨ e.session = .closing then
          (hunt.count n .dropNomem).modLink n Link.makeReceipt else hunt.count n .dropNomem)) ∧
      (r.storage = some .unstored → eop = .next
        (if e.session = .closed then (hunt.count n .dropSession).modLE n fun k => { k with
            pending := { k.pending with drop := true }
            dropEpoch := if k.pending.drop = true then k.dropEpoch else r.epoch.getD 0 }
          else hunt.count n .dropSession)))

/-- A control parcel whose characters, as a transmitter sends them, arrive one after another at a receiver in HUNT is handed
to the Link Engine as its row of the table, with every field as it was sent; on the way its characters count for the line
state (R28, R33, R37, R38, R42, R43, R49-R51, R212). -/
def Obligations.ControlParcelOnTheLine : Prop :=
  ∀ (i : Instr) (n : LinkId) (bytes : List Byte) (s : State), controlBytes i = some (n, bytes) → Quiet s n →
    (s.lu n).record.phase = .hunt →
    runAll ((LineChar.control .sop :: parcelChars bytes).map fun c => .receiveCharacter n c.encode) s =
      exec i (s.modLink n fun l => recordIs {} (heard (bytes.length + 4) l))

/-- A break sets the run to 0, discards a held character uncounted, abandons a parcel as TRUNCATED and takes an UP line
DOWN; while the break is present another does nothing, and a space still being measured is none yet (log entry 2). RXD's
return to mark makes the break absent, and classifies a character still held as a framing fault; a character's start bit
comes after such a return (R27, R29, R30, R40; the last clause is the model's reading, log entry 6), and one that a reset
has lost has no effect (R46; log entry 22). The line-loss timer's expiry stops it, and on an UP line abandons a parcel as
TRUNCATED and takes the line DOWN; the gap timer's expiry stops it and abandons the parcel with cause GAP; a timer that is
stopped, or restarted before the expiry is taken, does not expire (R29-R31, R40, R41, R115). That the parcel's release comes
before those of a session end that the same break or line loss brings is the model's choice (log entry 24); what a COMPLETED
descriptor keeps at that session end is its reading (log entry 16). -/
def Obligations.BreakLineLossAndGapExpiry : Prop :=
  ∀ (n : LinkId) (s : State),
    let lossOver := ∃ c, (s.lu n).lossTimer = some c ∧ (s.lu n).lossLimit ≤ c
    let gapOver := ∃ g, (s.lu n).gapTimer = some g ∧ (s.lu n).gapLimit * g.charTime ≤ g.elapsed
    ((s.lu n).breakPresent = true ∨ (s.lu n).rx.space ≠ none → exec (.lineBreak n) s = .next s) ∧
    ((s.lu n).breakPresent = false → (s.lu n).rx.space = none → PoolOk s → OwnersOk s → ∃ m t, exec (.lineBreak n) s = .next t ∧
      DroppedIfOpen n .dropLine (s.modLU n fun u => { u with heldSpace := false, breakPresent := true, run := 0 }) m ∧
      if (s.lu n).lineState = .up then LineWentDown n m t else t = m) ∧
    ((s.lu n).heldSpace = false →
      exec (.rxdReturnsToMark n) s = .next (s.modLU n fun u => { u with breakPresent := false })) ∧
    ((s.lu n).heldSpace = true → (∀ d, (s.lu n).record.descriptor = some d → (s.desc d).state = .assembling) →
      ∃ t, exec (.rxdReturnsToMark n) s = .next t ∧ DroppedIfOpen n .dropLine
        ((s.modLU n fun u => { u with heldSpace := false, breakPresent := false, run := 0 }).count n .charFaults) t) ∧
    (∀ x t, exec (.rxdReturnsToMark n) s = .next t → (s.lu n).rx.lost ≠ some x →
      exec (.receiveCharacter n x) s = exec (.receiveCharacter n x) t) ∧
    (∀ x, (s.lu n).rx.lost = some x → exec (.receiveCharacter n x) s = .next s) ∧
    (¬ lossOver → exec (.lineLossExpiry n) s = .next s) ∧
    (lossOver → (s.lu n).lineState = .down →
      exec (.lineLossExpiry n) s = .next (s.modLU n fun u => { u with lossTimer := none })) ∧
    (lossOver → (s.lu n).lineState = .up → PoolOk s → OwnersOk s →
      ∃ m t, exec (.lineLossExpiry n) s = .next t ∧
        DroppedIfOpen n .dropLine (s.modLU n fun u => { u with lossTimer := none }) m ∧ LineWentDown n m t) ∧
    (¬ gapOver → exec (.gapTimerExpiry n) s = .next s) ∧
    (gapOver → (s.lu n).record.phase = .inParcel →
      (∀ d, (s.lu n).record.descriptor = some d → (s.desc d).state = .assembling) →
      ∃ t, exec (.gapTimerExpiry n) s = .next t ∧
        Dropped n .dropLine (s.modLU n fun u => { u with gapTimer := none }) t)

/-- The recogniser, one REFCLK period after another: waiting, it finds a start bit where RXD goes from mark to space, and
receives the character at the divider that stands then; it samples each bit in its middle, mark in the middle of the start
bit being a false start, and recognises the character at the middle of the stop bit; after a stop bit at mark it waits for
the next start bit at once, after one at space for RXD's return to mark (R23, R25). Over a whole line: twelve bits at mark
and space are recognised as the character they are; a space of 2 character times is one held character and one break,
however long it lasts, and a shorter one ends in a return to mark (R27). After a reset at space a break is measured from the
reset, and no start bit is looked for before mark (R27, R46). The first period ends what a reset has lost (log entry 22).
MODEL'S CHOICE (log entry 21): which period is a bit's middle, and that a space has lasted 2 character times, R27's bound of
a break, in the period that comes that many after its first, so that one at space in exactly that many periods is none. -/
def Obligations.ReceiverSamplesRxd : Prop :=
  ∀ (n : LinkId) (u : LineUnit),
    let B := u.divider + 1
    let phase := fun prev now => (u.rxTick prev now).rx.phase
    let found := fun prev now : Bool => if prev = true ∧ now = false then RxPhase.receiving B 0 0 else .waiting
    let awaited := fun now : Bool => if now = true then RxPhase.waiting else .waitMark
    (∀ prev now, ∃ rx, u.rxTick prev now = { u with rx := rx } ∧ rx.lost = none) ∧
    (u.rx.phase = .waiting → ∀ prev now, phase prev now = found prev now) ∧
    (u.rx.phase = .waitMark → ∀ prev now, phase prev now = awaited now ∧
      (.rxdReturnsToMark n ∈ u.rxDue n prev now ↔ now = true)) ∧
    (∀ b e x, u.rx.phase = .receiving b e x → 0 < b → ∀ prev now,
      let i := (e + 1) / b
      (11 * b + b / 2 ≤ e →
        phase prev now = (if x.getLsbD 11 = true then found prev now else awaited now) ∧
        (.rxdReturnsToMark n ∈ u.rxDue n prev now ↔ x.getLsbD 11 = false ∧ now = true)) ∧
      (e < 11 * b + b / 2 →
        phase prev now =
          (if (e + 1) % b ≠ b / 2 then .receiving b (e + 1) x
           else if i = 0 ∧ now = true then .waiting
           else .receiving b (e + 1) (if now = true then x ||| BitVec.twoPow 12 i else x)) ∧
        ∀ y, (.receiveCharacter n y ∈ u.rxDue n prev now ↔
          e + 1 = 11 * b + b / 2 ∧ phase prev now = .receiving b (e + 1) y))) ∧
    (3 ≤ u.divider → u.rx.phase = .waiting → u.rx.space = none →
      (∀ x : BitVec 12, x.getLsbD 0 = false →
        recognisedOver n true u ((List.range (11 * B + B / 2 + 1)).map fun k => x.getLsbD (k / B)) =
          [.receiveCharacter n x]) ∧
      (∀ k, recognisedOver n true u (List.replicate (24 * B + 1 + k) false ++ [true]) =
        [.receiveCharacter n 0, .lineBreak n, .rxdReturnsToMark n]) ∧
      ∀ k, 12 * B ≤ k → k ≤ 24 * B → recognisedOver n true u (List.replicate k false ++ [true]) =
        [.receiveCharacter n 0, .rxdReturnsToMark n]) ∧
    (u.rx.phase = .waitMark → u.rx.space = some { elapsed := 0, charTime := 12 * 16 } →
      (∀ k, recognisedOver n false u (List.replicate (24 * 16 + k) false ++ [true]) =
        [.lineBreak n, .rxdReturnsToMark n]) ∧
      ∀ k, k < 24 * 16 → recognisedOver n false u (List.replicate k false ++ [true]) = [.rxdReturnsToMark n])

/-- The transmitter, one REFCLK period after another: a character lasts 12 bit times at the divider that stood when it began
(R22, R23), its bits on TXD in the order start, data from the least significant, class, odd parity, stop (R22, R211); a
parcel's characters follow each other directly, and FILL sends IDLE after IDLE (R32, R33). What falls due at the end of a
character: in FILL a transmit choice; after a parcel's last character the parcel's end, for DATA, and a choice; after the
mark of a reset the start of FILL (R32-R36), until which the last character, and the mark, stand as they are. That these
fall in the character's last REFCLK period, in an idle step, is the model's choice (log entries 1 and 21). -/
def Obligations.TransmitterMovesOn : Prop :=
  (∀ (n : LinkId) (u : LineUnit),
    let t := u.tx
    let ended := 12 * t.bitTime ≤ t.elapsed + 1
    (¬ ended → u.txTick = { u with tx := { t with elapsed := t.elapsed + 1 } } ∧ u.txDue n = []) ∧
    (ended → t.phase = .parcel →
      (∀ c rest, t.rest = c :: rest →
        u.txTick = { u with tx := { t with char := c, rest := rest, elapsed := 0, bitTime := u.divider + 1 } } ∧
        u.txDue n = []) ∧
      (t.rest = [] → u.txTick = { u with tx := { t with elapsed := 0, bitTime := u.divider + 1 } } ∧
        u.txDue n = match t.descriptor with
        | some _ => [if t.cut = true then .abortEnd n else .transmissionEnd n, .transmitChoice n]
        | none => [.transmitChoice n])) ∧
    (ended → t.phase = .fill → u.txDue n = [.transmitChoice n] ∧
      u.txTick = { u with tx := { phase := .fill, char := .control .idle, rest := [], descriptor := none, cut := false,
                                  elapsed := 0, bitTime := u.divider + 1 } }) ∧
    (ended → t.phase = .mark → u.txDue n = [.transmitterFillStart n] ∧
      u.txTick = { u with tx := { t with elapsed := t.elapsed + 1 } })) ∧
  (∀ t : Tx,
    (t.phase = .mark → t.level = true) ∧
    (t.phase ≠ .mark → ∀ i, i * t.bitTime ≤ t.elapsed → t.elapsed < (i + 1) * t.bitTime →
      t.level = t.char.encode.getLsbD i)) ∧
  ∀ c : LineChar,
    let x := c.encode
    let code := match c with
      | .data b => b
      | .control .idle => 0xA5
      | .control .sop => 0x5A
      | .control .eop => 0x96
      | .control .abort => 0x69
    x.getLsbD 0 = false ∧ (∀ i, i < 8 → x.getLsbD (i + 1) = code.getLsbD i) ∧
      (x.getLsbD 9 = true ↔ ∃ k, c = .control k) ∧
      ((List.range 10).filter fun i => x.getLsbD (i + 1)).length % 2 = 1 ∧ x.getLsbD 11 = true

/-! ## The transmitter (chapters 2, 3 and 5) -/

/-- At a parcel boundary the choice takes the first available of DROP, GRANT, CLOSE-ACK, OPEN, CLOSE, RECEIPT, a resend of
the marked descriptor of lowest offset, a first send within the bound, and QUERY, each in the session states in which it is
sent; where nothing is available an IDLE starts and the flags Set in other states are Cleared (R32, R55-R58). MODEL'S CHOICE
(log entry 2): a TRANSMIT_CHOICE command is obeyed wherever AtBoundary holds, which is also in the middle of an IDLE or of a
control parcel, and changes nothing elsewhere; R32 has a choice at parcel boundaries alone, and there the clock sends one. -/
def Obligations.TransmitChoiceOrder : Prop :=
  ∀ (n : LinkId) (s : State),
    let e := s.le n
    let p := e.pending
    let live := e.session = .open_ ∨ e.session = .draining ∨ e.session = .closing
    let sending := e.session = .open_ ∨ e.session = .draining
    let marked := e.retention.filter fun d => (s.desc d).resendPending = some true
    (s.choose n =
      if p.drop = true then .drop
      else if p.grant = true ∧ live then .grant
      else if p.closeAck = true then .closeAck
      else if p.open_ = true ∧ e.session = .opening then .open_
      else if p.close = true ∧ e.session = .closing then .close
      else if p.receipt = true ∧ live then .receipt
      else match marked, e.submit with
        | d :: _, _ => .resend d
        | [], d :: _ =>
          if sending ∧ e.retention.length < min 8 e.peerCredit then .firstSend d
          else if p.query = true ∧ sending then .query else .nothing
        | [], [] => if p.query = true ∧ sending then .query else .nothing) ∧
    (¬ AtBoundary s n → exec (.transmitChoice n) s = .next s) ∧
    (AtBoundary s n → s.choose n = .nothing →
      exec (.transmitChoice n) s = .next (s.modLink n fun l => idleStarted (pendingIs {} l)))

/-- What the chosen control parcel carries, byte by byte, and what its start does: the flag taken is Cleared, and so is
every flag Set in a session state in which its kind is not sent (R55, R56, R71; that this holds for flags after the one
taken too is the model's reading, log entry 26); GRANT, OPEN and RECEIPT set the last advertised credit to the credit they
carry; RECEIPT reports E and the HELD offsets, zeroes the accepted count, stops the hold timer and is counted (R33, R47,
R54-R56, R59-R61, R136, R212). -/
def Obligations.ControlParcelContents : Prop :=
  ∀ (n : LinkId) (s : State), AtBoundary s n →
    let e := s.le n
    let p := e.pending
    let first := fun (kind : Nat) (epoch : Epoch) => BitVec.ofNat 8 (16 * epoch.toNat + kind)
    let credit := BitVec.ofNat 8 (s.credit n)
    let starts := fun (bytes : List Byte) (q : Pending) (f : Link → Link) =>
      exec (.transmitChoice n) s = .next (s.modLink n fun l => parcelStarted bytes none (pendingIs q (f l)))
    let advertised := fun (l : Link) => { l with le := { l.le with advertised := s.credit n } }
    let live := e.session = .open_ ∨ e.session = .draining ∨ e.session = .closing
    let sent : Pending :=
      { drop := p.drop, grant := p.grant && decide live, closeAck := p.closeAck
        open_ := p.open_ && decide (e.session = .opening), close := p.close && decide (e.session = .closing)
        receipt := p.receipt && decide live
        query := p.query && decide (e.session = .open_ ∨ e.session = .draining) }
    (s.choose n = .drop → starts [first 7 e.dropEpoch] { sent with drop := false } id) ∧
    (s.choose n = .grant → starts [first 4 e.epoch, credit] { sent with grant := false } advertised) ∧
    (s.choose n = .closeAck → starts [first 6 e.epoch] { sent with closeAck := false } id) ∧
    (s.choose n = .open_ → e.latched.rank ≤ 3 →
      starts [first 3 e.epoch, BitVec.ofNat 8 (s.credit n + 16 * e.latched.rank)]
        { sent with open_ := false } advertised) ∧
    (s.choose n = .close → starts [first 5 e.epoch] { sent with close := false } id) ∧
    (s.choose n = .query → starts [first 2 e.epoch] { sent with query := false } id) ∧
    (s.choose n = .receipt → ∃ gapMap : BitVec 7,
      (∀ i, i < 7 → (gapMap.getLsbD i = true ↔ ∃ d, e.window[i]? = some (some d))) ∧
      exec (.transmitChoice n) s = .next ((s.modLink n fun l =>
        let a := advertised l
        parcelStarted [first 1 e.epoch, BitVec.ofNat 8 e.expected.toNat, BitVec.ofNat 8 gapMap.toNat, credit] none
          (pendingIs { sent with receipt := false } { a with le := { a.le with accepted := 0, holdTimer := none } })).count n
            .rcptSent))

/-- A first send gives the submit queue's head the next ordinal and the epoch counter, makes it RETAINED and *on line* and
moves it to the retention queue's tail; a resend raises *resends* up to 15, unmarks its descriptor and Sets *on line*, with
the copy flag Set. Header and payload are read from the descriptor, and each is counted (R1, R33, R57, R58, R90, R94). That
a QUERY below the candidate is Cleared in a state in which it is not sent, and that the transmitter holds the whole payload
from the choice on, where R33 reads each byte as it is needed, are the model's readings (log entries 26 and 15). Payload
byte i is the byte of parcel memory at byte i mod 64 of the block at position i / 64 (R1). -/
def Obligations.DataParcelsSent : Prop :=
  ∀ (n : LinkId) (s : State) (d : DescId) (len : Nat), AtBoundary s n → (s.desc d).length = some len →
    let e := s.le n
    let r := s.desc d
    let payload := (List.range len).map fun i => s.readPayload d i
    let flags : Pending := { query := e.pending.query && decide (e.session = .open_ ∨ e.session = .draining) }
    (∀ i b, i < len → r.blocks[i / 64]? = some b → payload[i]? = some (s.mem.read (64 * b.val + i % 64))) ∧
    (s.choose n = .firstSend d → r.state = .submitted →
      exec (.transmitChoice n) s = .next (({ s with
        descs := s.descs.set d
          { r with state := .retained, ordinal := some e.nextOrdinal, epoch := some e.epoch, onLine := some true }
      }.modLink n fun l =>
        parcelStarted ([BitVec.ofNat 8 (16 * e.epoch.toNat), BitVec.ofNat 8 e.nextOrdinal.toNat, BitVec.ofNat 8 len] ++
          payload) (some d) (pendingIs flags { l with le := { l.le with
            submit := e.submit.tail, retention := e.retention ++ [d], nextOrdinal := e.nextOrdinal + 1 } })).count n
              .dataSent)) ∧
    ∀ epoch ordinal resends, s.choose n = .resend d → r.state = .retained → r.epoch = some epoch →
      r.ordinal = some ordinal → r.resends = some resends →
      exec (.transmitChoice n) s = .next (({ s with
        descs := s.descs.set d { r with
          resends := some (if resends < 15 then resends + 1 else 15), resendPending := some false, onLine := some true }
      }.modLink n fun l =>
        parcelStarted ([BitVec.ofNat 8 (16 * epoch.toNat + 8), BitVec.ofNat 8 ordinal.toNat, BitVec.ofNat 8 len] ++
          payload) (some d) (pendingIs flags l)).count n .dataResent)

/-- The end of a DATA parcel sent whole: a RETAINED descriptor goes off line and the report starts RESEND mode in OPEN and
DRAINING if the link timer is STOPPED; a DETACHED one is freed with *outcome* DISCARD and completes otherwise, with no
report, and the drain test follows. The ABORT of a parcel cut short ends it the same way, with no report. The transmitter is
in FILL afterwards (R16, R34, R35, R74, R117, R123). After a reset FILL starts when the character time at mark has passed,
and not before (R36). MODEL'S CHOICE: a TRANSMISSION_END command acts by the descriptor's state on a parcel cut short too,
where R35 has no transmission end reported and the clock sends none (log entry 19); a command whose transmitter is not in
the phase it ends changes nothing (log entry 2); and the ABORT of a cut control parcel leads to FILL and nothing else (log
entry 19). What a COMPLETED
descriptor keeps, with *on line* Cleared, is the model's reading (log entry 16). -/
def Obligations.TransmissionsEnd : Prop :=
  ∀ (n : LinkId) (s : State),
    let tx := (s.lu n).tx
    let fill := s.modLink n idleStarted
    let ends := fun (i : Instr) (d : DescId) =>
      ((s.desc d).state = .detached → (s.desc d).outcome = some .discard →
        ∃ m, ReleasedOnly d fill m ∧ exec i s = exec (.drainComplete n) m) ∧
      ((s.desc d).state = .detached → (s.desc d).outcome ≠ some .discard →
        ∃ m, Completed (s.le n).latched.reporting d fill m ∧ exec i s = exec (.drainComplete n) m)
    (tx.phase ≠ .parcel ∨ tx.descriptor = none → exec (.transmissionEnd n) s = .next s) ∧
    (tx.phase ≠ .parcel ∨ tx.cut = false → exec (.abortEnd n) s = .next s) ∧
    (∀ d, tx.phase = .parcel → tx.descriptor = some d →
      ends (.transmissionEnd n) d ∧ (tx.cut = true → ends (.abortEnd n) d) ∧
      ((s.desc d).state = .retained → exec (.transmissionEnd n) s = .next ({ fill with
        descs := s.descs.set d { s.desc d with onLine := some false } }.modLE n fun e => { e with
          timer := if (e.session = SessionState.open_ ∨ e.session = SessionState.draining) ∧ e.timer = none then
            some { mode := .resend, duration := e.latched.rto * 2 ^ min e.retryCount 3, count := 0 } else e.timer }))) ∧
    (tx.phase = .parcel → tx.cut = true → tx.descriptor = none → exec (.abortEnd n) s = .next fill) ∧
    exec (.transmitterFillStart n) s = .next (if tx.phase = .mark ∧ 12 * tx.bitTime ≤ tx.elapsed then fill else s)

/-! ## Timers (chapter 6 and R146) -/

/-- An expiry below the retry limit raises the retry count, is counted and restarts the timer with RTO x 2^min(count, 3); in
CONTROL mode it makes OPEN or CLOSE pending again, in RESEND mode it marks every RETAINED descriptor that is neither *seen*
nor *on line*, in QUERY mode it makes QUERY pending. A timer that does not run in a mode, or has not reached its duration
since its last start, does not expire in it (R115, R116, R126). The receipt hold timer's expiry makes a receipt pending and
stops it (R116-R118, R121, R124, R129, R137, R146). -/
def Obligations.ExpiriesBelowTheLimit : Prop :=
  ∀ (n : LinkId) (s : State),
    let e := s.le n
    let row := fun (m : TimerMode) => match m with
      | .control => Instr.controlExpiry n
      | .resend => Instr.resendExpiry n
      | .query => Instr.queryExpiry n
    let counted := fun (m : TimerMode) (f : LinkEngine → LinkEngine) => (s.modLE n fun e => f { e with
      retryCount := e.retryCount + 1
      timer := some { mode := m, duration := e.latched.rto * 2 ^ min (e.retryCount + 1) 3, count := 0 } }).count n
        .timerExpiry
    let due := fun m : TimerMode => ∃ r, e.timer = some r ∧ r.mode = m ∧ r.duration ≤ r.count
    let holdDue := ∃ c, e.holdTimer = some c ∧ e.latched.holdTime ≤ c
    (∀ m, ¬ due m → exec (row m) s = .next s) ∧
    (e.retryCount + 1 < e.latched.retryLimit →
      (due .control → e.session = .opening → exec (.controlExpiry n) s =
        .next (counted .control fun e => { e with pending := { e.pending with open_ := true } })) ∧
      (due .control → e.session = .closing → exec (.controlExpiry n) s =
        .next (counted .control fun e => { e with pending := { e.pending with close := true } })) ∧
      (due .query → exec (.queryExpiry n) s =
        .next (counted .query fun e => { e with pending := { e.pending with query := true } })) ∧
      (due .resend → (∀ d ∈ e.retention, (s.desc d).state = .retained) →
        ∃ t, exec (.resendExpiry n) s = .next t ∧ { t with descs := s.descs } = counted .resend id ∧
          ∀ d, t.desc d = if d ∈ e.retention ∧ (s.desc d).seen ≠ some true ∧ (s.desc d).onLine ≠ some true then
            { s.desc d with resendPending := some true } else s.desc d)) ∧
    (¬ holdDue → exec (.receiptHoldExpiry n) s = .next s) ∧
    (holdDue → exec (.receiptHoldExpiry n) s = .next (s.modLE n fun e =>
      { e with holdTimer := none, pending := { e.pending with receipt := true } }))

/-- An expiry that raises the retry count to the limit is counted, makes a DROP of the epoch counter pending, an earlier DROP
keeping its epoch, and ends the session, keeping that DROP: OPEN_TIMEOUT in OPENING, CLOSE_UNCONFIRMED in CLOSING,
RETRY_EXHAUSTED in RESEND and QUERY mode (R54, R80, R82, R118, R119). What a COMPLETED descriptor keeps is the model's reading
(log entry 16). -/
def Obligations.ExhaustionEndsTheSession : Prop :=
  ∀ (n : LinkId) (s : State), PoolOk s → OwnersOk s →
    let e := s.le n
    let ends := fun (i : Instr) (cause : EndCause) => ∃ t, exec i s = .next t ∧ SessionEnded n cause true false false
      (if e.pending.drop = true then e.dropEpoch else e.epoch) (s.count n .timerExpiry) t
    let due := fun m : TimerMode => ∃ r, e.timer = some r ∧ r.mode = m ∧ r.duration ≤ r.count
    e.latched.retryLimit ≤ e.retryCount + 1 →
      (due .control → e.session = .opening → ends (.controlExpiry n) .openTimeout) ∧
      (due .control → e.session = .closing → ends (.controlExpiry n) .closeUnconfirmed) ∧
      (due .resend → ends (.resendExpiry n) .retryExhausted) ∧
      (due .query → ends (.queryExpiry n) .retryExhausted)

/-! ## The windows (chapters 5 and 7) -/

/-- A stored DATA parcel handed over in a live session: with another epoch it is released as STALE; at offset 0 it is
delivered, and the parcels held at the offsets that follow without a gap are promoted behind it, E advancing past them all;
at an empty offset 1..7 it is held and a receipt is due; at an occupied one or at 56..63 it is released as DUP, at 8..55 as
OUTWIN, with a receipt due. Acceptances count up to 8, start the hold timer and make a receipt due by threshold or hold time
0; in CLOSING every parcel of the epoch sets the retry count to 0 (R43, R77, R134, R135, R138-R143, R145-R147). Without such
a parcel the hand-off does not occur (R53). -/
def Obligations.ArrivingDataByOffset : Prop :=
  ∀ (n : LinkId) (s : State),
    let e := s.le n
    let live := e.session = .open_ ∨ e.session = .draining ∨ e.session = .closing
    let alive := fun (e : LinkEngine) => if e.session = .closing then { e with retryCount := 0 } else e
    let accepted := fun (e : LinkEngine) => { e with
      accepted := min 8 (e.accepted + 1)
      holdTimer := if e.accepted = 0 ∧ 0 < e.latched.holdTime then some 0 else e.holdTimer
      pending := { e.pending with
        receipt := e.pending.receipt || decide (e.latched.threshold ≤ min 8 (e.accepted + 1)) ||
          decide (e.latched.holdTime = 0) } }
    ((s.lu n).record.descriptor = none ∨ (s.lu n).record.storage ≠ some .storing ∨ ¬ live →
      exec (.receiveData n) s = .next s) ∧
    ∀ d o, (s.lu n).record.descriptor = some d → (s.lu n).record.storage = some .storing → live →
      (s.desc d).ordinal = some o → PoolOk s → OwnersOk s → e.window.length = 7 →
      let hunt := s.modLink n (recordIs {})
      let offset := (o - e.expected).toNat
      let held := e.window.takeWhile Option.isSome
      ((s.desc d).epoch ≠ some e.epoch → ∃ m, ReleasedOnly d hunt m ∧
        exec (.receiveData n) s = .next (m.count n .dropSession)) ∧
      ((s.desc d).epoch = some e.epoch →
        (offset = 0 → ∃ t, exec (.receiveData n) s = .next t ∧
          t.delivery = s.delivery ++ d :: held.filterMap id ∧
          t.desc d = { s.desc d with state := .delivered, held := some false } ∧
          (∀ x, some x ∈ held → t.desc x = { s.desc x with state := .delivered, held := some true }) ∧
          (∀ x, x ≠ d → some x ∉ held → t.desc x = s.desc x) ∧
          (∀ i, i < 7 → (t.le n).window[i]? = some ((e.window[i + held.length + 1]?).join)) ∧
          (t.le n).window.length = 7 ∧
          (∃ w counters half, t.link n = { hunt.link n with
            le := { accepted (alive e) with expected := e.expected + 1 + BitVec.ofNat 6 held.length, window := w }
            counters := counters, half := half } ∧
            counters.get 2 = min 65535 ((s.link n).counters.get 2 + 1 + held.length) ∧
            (∀ c, c ≠ 2 → counters.get c = (s.link n).counters.get c) ∧
            (half = true ↔ (s.link n).half = true ∨
              (s.link n).counters.get 2 ≤ 32767 ∧ 32768 ≤ (s.link n).counters.get 2 + 1 + held.length) ∧
            t.globalEvents = if (s.link n).counters.get 2 ≤ 32767 ∧
                32768 ≤ (s.link n).counters.get 2 + 1 + held.length then s.globalEvents ||| 0x09
              else s.globalEvents ||| 0x01) ∧
          (∀ m, m ≠ n → t.link m = s.link m) ∧
          { t with links := s.links, descs := s.descs, delivery := s.delivery, globalEvents := s.globalEvents } = s) ∧
        (∀ i, offset = i + 1 → e.window[i]? = some none → exec (.receiveData n) s = .next ({ hunt with
          descs := s.descs.set d { s.desc d with state := .held, held := some false } }.modLE n fun e =>
            let a := accepted (alive e)
            { a with window := e.window.set i (some d), pending := { a.pending with receipt := true } })) ∧
        ((∃ i x, offset = i + 1 ∧ e.window[i]? = some (some x)) ∨ 56 ≤ offset →
          ∃ m, ReleasedOnly d (hunt.modLE n alive) m ∧
            exec (.receiveData n) s = .next ((m.count n .dropDup).modLink n Link.makeReceipt)) ∧
        (8 ≤ offset → offset ≤ 55 → ∃ m, ReleasedOnly d (hunt.modLE n alive) m ∧
          exec (.receiveData n) s = .next ((m.count n .dropOutwin).modLink n Link.makeReceipt)))

/-- A valid receipt is taken: the descriptors below *cumulative* leave with *outcome* DELIVERED, the one on line DETACHED,
the others complete with their records in ordinal order; OU becomes *cumulative*; the gap map marks *seen*; peer credit and
retry count are set; it is counted; the link timer restarts, stops or turns to QUERY mode by the table of R125; and the
drain test follows (R98, R101-R106, R125, R128). Where a descriptor has been released, every link with a window update due,
the receipt's own among them, has its RECEIPT flag Set (R17). A timer that runs on is held off an expiry due at the same
moment: that it then expires at the next TU boundary is the model's choice (R126, R131; log entry 25); what a COMPLETED
descriptor keeps is its reading (log entry 16). -/
def Obligations.ValidReceiptInParts : Prop :=
  ∀ (n : LinkId) (k : Sys2Proof.Ordinal) (g : BitVec 7) (c : Byte) (s : State), PoolOk s → OwnersOk s →
    let e := s.le n
    let d := (k - e.oldest).toNat
    let leaving := e.retention.take d
    let kept := e.retention.drop d
    let sending := e.session = .open_ ∨ e.session = .draining
    let heldOff := e.timer.map fun r => { r with count := min r.count (r.duration - 1) }
    let released := leaving.any fun x => !s.isOnLine x
    sending ∨ e.session = .closing → d ≤ e.retention.length →
    ∃ m t, exec (.receiveReceipt n e.epoch k g c) s = .next t ∧ exec (.drainComplete n) m = .next t ∧
      (∀ x, m.desc x =
        if x ∈ leaving then
          if s.isOnLine x = true then { s.desc x with state := .detached, outcome := some .delivered }
          else if e.latched.reporting = true then
            { s.desc x with state := .completed, outcome := some .delivered, blocks := [], onLine := some false }
          else {}
        else if ((List.range 7).any fun i => g.getLsbD i && kept[i + 1]? == some x) = true then
          { s.desc x with seen := some true, resendPending := some false }
        else s.desc x) ∧
      m.completion = s.completion ++
        (if e.latched.reporting = true then leaving.filter fun x => !s.isOnLine x else []) ∧
      (m.le n = { e with
        oldest := k, retention := kept, peerCredit := min 8 c.toNat, retryCount := 0
        pending := { e.pending with receipt := e.pending.receipt || (released && m.updateDue n) }
        timer :=
          if ¬ sending then e.timer
          else if kept ≠ [] then
            if 0 < d then some { mode := .resend, duration := e.latched.rto, count := 0 } else heldOff
          else if e.submit ≠ [] ∧ c = 0 then
            if e.timerMode = some .query then heldOff
            else some { mode := .query, duration := e.latched.rto, count := 0 }
          else none }) ∧
      (m.link n = { s.link n with le := m.le n, counters := (m.link n).counters, half := (m.link n).half }) ∧
      (∀ i, (m.link n).counters.get i =
        if i = 4 then min 65535 ((s.link n).counters.get 4 + 1) else (s.link n).counters.get i) ∧
      (m.link n).half = ((s.link n).half || decide ((s.link n).counters.get 4 = 32767)) ∧
      m.globalEvents = s.globalEvents ||| (if m.completion = s.completion then 0 else 0x02) |||
        (if (s.link n).counters.get 4 = 32767 then 0x08 else 0) ∧
      m.freeDescs = s.freeDescs ++ (List.finRange 64).filter (fun x =>
        decide ((m.desc x).state = .free) && decide ((s.desc x).state ≠ .free)) ∧
      m.freeBlocks = s.freeBlocks ++
        (List.finRange 64).flatMap (fun x => if (m.desc x).blocks = [] then (s.desc x).blocks else []) ∧
      (∀ j, j ≠ n → m.link j =
        if released = true ∧ m.updateDue j = true then (s.link j).makeReceipt else s.link j) ∧
      (WatermarkOk s → WatermarkOk m) ∧
      { m with links := s.links, descs := s.descs, freeDescs := s.freeDescs, freeBlocks := s.freeBlocks,
               armed := s.armed, completion := s.completion, globalEvents := s.globalEvents } = s

/-- A RECEIPT out of range is counted as BAD_RCPT, and a RECEIPT or QUERY of another epoch as STALE, with no other effect; a
QUERY of the epoch makes a receipt pending; in CLOSED both draw a DROP with their epoch, unless one is pending, and in
OPENING both are ignored (R54, R79, R99, R100, R149). -/
def Obligations.ReceiptsAndQueriesJudged : Prop :=
  ∀ (n : LinkId) (epoch : Epoch) (k : Sys2Proof.Ordinal) (g : BitVec 7) (c : Byte) (s : State),
    let e := s.le n
    let live := e.session = .open_ ∨ e.session = .draining ∨ e.session = .closing
    let both := fun (o : State) =>
      exec (.receiveReceipt n epoch k g c) s = .next o ∧ exec (.receiveQuery n epoch) s = .next o
    (e.session = .closed → both (s.modLE n fun e => { e with
      pending := { e.pending with drop := true }
      dropEpoch := if e.pending.drop = true then e.dropEpoch else epoch })) ∧
    (e.session = .opening → both s) ∧
    (live → epoch ≠ e.epoch → both (s.count n .dropSession)) ∧
    (live → epoch = e.epoch → e.retention.length < (k - e.oldest).toNat →
      exec (.receiveReceipt n epoch k g c) s = .next (s.count n .badRcpt)) ∧
    (live → epoch = e.epoch → exec (.receiveQuery n epoch) s = .next (s.modLink n Link.makeReceipt))

/-! ## What every step keeps -/

/-- Every step keeps the pool in order: every block index on the free list or in one descriptor, the free descriptor list
exactly the FREE descriptors, FREE and COMPLETED descriptors clean, the watermark condition armed exactly while the free
block count reaches it, the parcel memory in canonical form, and lengths, block counts, the write count and the read pointer
agreeing; given that descriptors stand where their states say (R1, R2, R3, R5, R7, R8, R18, R19, R159, R169). -/
def Obligations.EveryStepKeepsThePool : Prop :=
  ∀ s t : State, PoolOk s → OwnersOk s → WatermarkOk s → s.mem.wf → LengthsOk s → step s = .next t →
    PoolOk t ∧ WatermarkOk t ∧ t.mem.wf ∧ LengthsOk t

/-- Every step keeps every descriptor where its state says: in its link's submit or retention queue, window, receive record
or transmitter, in the delivery or completion queue, or in the staging context (R5, R87, R91, R92, R134, R159, R167,
R173). -/
def Obligations.EveryStepKeepsOwnership : Prop :=
  ∀ s t : State, PoolOk s → OwnersOk s → LinksOk s → step s = .next t → OwnersOk t

/-- Every step keeps every link in order: windows and counts in their bounds, a CLOSED link empty with its timers stopped,
the retry count below the limit, the link timer's mode fitting the session state, a drain origin exactly in DRAINING,
nothing stored outside a live session, the recogniser inside its character, the retained ordinals consecutive from OU and
every HELD entry at the offset of its ordinal (R25, R39, R44, R57, R64, R74, R80, R87, R91, R118, R120, R123, R128,
R134-R136). -/
def Obligations.EveryStepKeepsLinksInOrder : Prop :=
  ∀ s t : State, PoolOk s → OwnersOk s → LinksOk s → OrdinalsOk s → step s = .next t →
    LinksOk t ∧ OrdinalsOk t

/-- Every step keeps the guarantees' sum at 128 or below and every counter at 65,535 or below (R13, R192). -/
def Obligations.EveryStepKeepsGuaranteesAndCounters : Prop :=
  ∀ s t : State, GuaranteesOk s → CountersOk s → step s = .next t → GuaranteesOk t ∧ CountersOk t

/-- The part after reset meets every condition that the steps keep. -/
def Obligations.ResetMeetsTheInvariants : Prop :=
  PoolOk .reset ∧ OwnersOk .reset ∧ WatermarkOk .reset ∧ State.reset.mem.wf ∧ LengthsOk .reset ∧ LinksOk .reset ∧
    OrdinalsOk .reset ∧ GuaranteesOk .reset ∧ CountersOk .reset
end

