-- ==== Sys2Proof/Laws/Memory.lean ====
section
/-! SUPPORT. Parcel memory: a write keeps the canonical form, and what a read finds after a write. -/

namespace Sys2Proof.Machine

theorem Memory.read_cell_same (a : Nat) (v : Byte) (rest : Memory)
    (h : rest.read a = Config.unwrittenByte) : (Memory.cell a v rest).read a = v := by
  unfold Memory.cell; split
  · rename_i e; rw [h, e]
  · simp [Memory.read]

theorem Memory.read_cell_ne (a b : Nat) (v : Byte) (rest : Memory) (h : b ≠ a) :
    (Memory.cell a v rest).read b = rest.read b := by
  unfold Memory.cell; split
  · rfl
  · simp [Memory.read, Ne.symm h]

/-- An address below every listed one, or listed nowhere, reads as unwritten. -/
theorem Memory.read_unlisted (m : Memory) (a : Nat) (h : ∀ c ∈ m, c.1 ≠ a) : m.read a = Config.unwrittenByte := by
  induction m with
  | nil => rfl
  | cons c rest ih =>
    have hc := h c (by simp)
    simp only [Memory.read, hc, if_false]
    exact ih fun x hx => h x (by simp [hx])

/-- A write reads back at its address. -/
theorem Memory.read_write_same (m : Memory) (a : Nat) (v : Byte) (h : m.Pairwise fun a b => a.1 < b.1) :
    (m.write a v).read a = v := by
  induction m with
  | nil => exact Memory.read_cell_same _ _ _ rfl
  | cons c rest ih =>
    obtain ⟨k, x⟩ := c
    rw [List.pairwise_cons] at h
    unfold Memory.write; split
    · rename_i hak
      refine Memory.read_cell_same _ _ _ (Memory.read_unlisted _ _ fun y hy => ?_)
      rcases List.mem_cons.mp hy with e | hy
      · subst e; exact Nat.ne_of_gt hak
      · exact Nat.ne_of_gt (Nat.lt_trans hak (h.1 y hy))
    · split
      · rename_i e; subst e
        exact Memory.read_cell_same _ _ _ (Memory.read_unlisted _ _ fun y hy => Nat.ne_of_gt (h.1 y hy))
      · rename_i hka
        simp only [Memory.read, hka, if_false]
        exact ih h.2

/-- A write changes no other address. -/
theorem Memory.read_write_ne (m : Memory) (a b : Nat) (v : Byte) (h : b ≠ a) : (m.write a v).read b = m.read b := by
  induction m with
  | nil => exact Memory.read_cell_ne _ _ _ _ h
  | cons c rest ih =>
    obtain ⟨k, x⟩ := c
    unfold Memory.write; split
    · exact Memory.read_cell_ne _ _ _ _ h
    · split
      · rename_i e; subst e
        rw [Memory.read_cell_ne _ _ _ _ h]
        simp [Memory.read, Ne.symm h]
      · simp only [Memory.read]; split
        · rfl
        · exact ih

theorem Memory.mem_cell {a : Nat} {v : Byte} {rest : Memory} {c : Host.Cell} (h : c ∈ Memory.cell a v rest) :
    (c = (a, v) ∧ v ≠ Config.unwrittenByte) ∨ c ∈ rest := by
  unfold Memory.cell at h; split at h
  · exact Or.inr h
  · rename_i hv
    rcases List.mem_cons.mp h with e | hr
    · exact Or.inl ⟨e, hv⟩
    · exact Or.inr hr

theorem Memory.mem_write {m : Memory} {a : Nat} {v : Byte} {c : Host.Cell} (h : c ∈ m.write a v) :
    (c = (a, v) ∧ v ≠ Config.unwrittenByte) ∨ c ∈ m := by
  induction m with
  | nil => exact Memory.mem_cell h
  | cons d rest ih =>
    obtain ⟨k, x⟩ := d
    unfold Memory.write at h; split at h
    · exact Memory.mem_cell h
    · split at h
      · rcases Memory.mem_cell h with e | hr
        · exact Or.inl e
        · exact Or.inr (by simp [hr])
      · rcases List.mem_cons.mp h with e | hr
        · exact Or.inr (by simp [e])
        · rcases ih hr with e | hr
          · exact Or.inl e
          · exact Or.inr (by simp [hr])

theorem Memory.cell_sorted {a : Nat} {v : Byte} {rest : Memory} (h : rest.Pairwise fun a b => a.1 < b.1)
    (hb : ∀ c ∈ rest, a < c.1) : (Memory.cell a v rest).Pairwise fun a b => a.1 < b.1 := by
  unfold Memory.cell; split
  · exact h
  · exact List.pairwise_cons.mpr ⟨fun c hc => hb c hc, h⟩

theorem Memory.write_sorted {m : Memory} (a : Nat) (v : Byte) (h : m.Pairwise fun a b => a.1 < b.1) :
    (m.write a v).Pairwise fun a b => a.1 < b.1 := by
  induction m with
  | nil => exact Memory.cell_sorted h (by simp)
  | cons d rest ih =>
    obtain ⟨k, x⟩ := d
    have hp := List.pairwise_cons.mp h
    unfold Memory.write; split
    · rename_i hak
      refine Memory.cell_sorted h fun c hc => ?_
      rcases List.mem_cons.mp hc with e | hr
      · subst e; exact hak
      · exact Nat.lt_trans hak (hp.1 c hr)
    · rename_i hnlt
      split
      · rename_i e; subst e
        exact Memory.cell_sorted hp.2 fun c hc => hp.1 c hc
      · rename_i hne
        refine List.pairwise_cons.mpr ⟨fun c hc => ?_, ih hp.2⟩
        rcases Memory.mem_write hc with e | hr
        · rw [e.1]; show k < a; omega
        · exact hp.1 c hr

/-- A write inside the 8 KiB keeps the canonical form. -/
theorem Memory.write_wf {m : Memory} (a : Nat) (v : Byte) (h : m.wf) (ha : a < Config.memoryBytes) :
    (m.write a v).wf := by
  refine ⟨Memory.write_sorted a v h.1, fun c hc => ?_, fun c hc => ?_⟩
  · rcases Memory.mem_write hc with e | hr
    · rw [e.1]; exact e.2
    · exact h.2.1 c hr
  · rcases Memory.mem_write hc with e | hr
    · rw [e.1]; exact ha
    · exact h.2.2 c hr

/-- A payload address is inside the 8 KiB (R1). -/
theorem payloadAddress_lt {blocks : List BlockId} {i a : Nat} (h : payloadAddress blocks i = some a) :
    a < Config.memoryBytes := by
  unfold payloadAddress at h
  split at h
  · rename_i b _
    have hb : b.val < 128 := b.isLt
    have hm : i % 64 < 64 := Nat.mod_lt _ (by decide)
    simp only [Option.some.injEq, Config.blockBytes] at h
    subst h
    show b.val * 64 + i % 64 < 8192
    omega
  · exact absurd h (by simp)

/-- Writing a payload byte keeps the canonical form. -/
theorem State.writePayload_wf {s : State} (d : DescId) (i : Nat) (v : Byte) (h : s.mem.wf) :
    (s.writePayload d i v).mem.wf := by
  unfold State.writePayload; split
  · rename_i a ha; exact Memory.write_wf a v h (payloadAddress_lt ha)
  · exact h

end Sys2Proof.Machine
end

