-- ==== Sys2Proof/Laws/State.lean ====
section
/-! SUPPORT. Each shared update of State, field by field: what it leaves as it was, and what it reads back as. -/

namespace Sys2Proof.Machine

/-! ## Links -/

@[simp] theorem Quad.get_set_same {α : Type} (q : Quad α) (n : LinkId) (a : α) : (q.set n a).get n = a := by
  unfold Quad.get Quad.set; fin_cases n <;> rfl

theorem Quad.get_set_ne {α : Type} (q : Quad α) (n m : LinkId) (a : α) (h : m ≠ n) : (q.set n a).get m = q.get m := by
  unfold Quad.get Quad.set; fin_cases n <;> fin_cases m <;> first | rfl | exact absurd rfl h

@[simp] theorem Quad.get_map {α β : Type} (f : LinkId → α → β) (q : Quad α) (n : LinkId) :
    (q.map f).get n = f n (q.get n) := by
  unfold Quad.get Quad.map; fin_cases n <;> rfl

@[simp] theorem State.link_modLink_same (n : LinkId) (f : Link → Link) (s : State) :
    (s.modLink n f).link n = f (s.link n) := Quad.get_set_same _ _ _

theorem State.link_modLink_ne (n m : LinkId) (f : Link → Link) (s : State) (h : m ≠ n) :
    (s.modLink n f).link m = s.link m := Quad.get_set_ne _ _ _ _ h

theorem State.link_modLink (n m : LinkId) (f : Link → Link) (s : State) :
    (s.modLink n f).link m = if m = n then f (s.link n) else s.link m := by
  by_cases h : m = n
  · subst h; simp
  · simp [h, State.link_modLink_ne]

theorem State.le_modLE (n m : LinkId) (f : LinkEngine → LinkEngine) (s : State) :
    (s.modLE n f).le m = if m = n then f (s.le n) else s.le m := by
  unfold State.le State.modLE; rw [State.link_modLink]; split <;> rfl

@[simp] theorem State.le_modLE_same (n : LinkId) (f : LinkEngine → LinkEngine) (s : State) :
    (s.modLE n f).le n = f (s.le n) := by simp [State.le_modLE]

@[simp] theorem State.lu_modLE (n m : LinkId) (f : LinkEngine → LinkEngine) (s : State) :
    (s.modLE n f).lu m = s.lu m := by
  unfold State.lu State.modLE; rw [State.link_modLink]; split
  · rename_i h; subst h; rfl
  · rfl

theorem State.lu_modLU (n m : LinkId) (f : LineUnit → LineUnit) (s : State) :
    (s.modLU n f).lu m = if m = n then f (s.lu n) else s.lu m := by
  unfold State.lu State.modLU; rw [State.link_modLink]; split <;> rfl

@[simp] theorem State.lu_modLU_same (n : LinkId) (f : LineUnit → LineUnit) (s : State) :
    (s.modLU n f).lu n = f (s.lu n) := by simp [State.lu_modLU]

@[simp] theorem State.le_modLU (n m : LinkId) (f : LineUnit → LineUnit) (s : State) :
    (s.modLU n f).le m = s.le m := by
  unfold State.le State.modLU; rw [State.link_modLink]; split
  · rename_i h; subst h; rfl
  · rfl

theorem State.link_setEvent (n m : LinkId) (e : LinkEvent) (s : State) :
    (s.setEvent n e).link m = if m = n then { s.link n with events := (s.link n).events ||| e.bit } else s.link m :=
  State.link_modLink _ _ _ _

@[simp] theorem State.le_setEvent (n m : LinkId) (e : LinkEvent) (s : State) : (s.setEvent n e).le m = s.le m := by
  unfold State.le; rw [State.link_setEvent]; split
  · rename_i h; subst h; rfl
  · rfl

@[simp] theorem State.lu_setEvent (n m : LinkId) (e : LinkEvent) (s : State) : (s.setEvent n e).lu m = s.lu m := by
  unfold State.lu; rw [State.link_setEvent]; split
  · rename_i h; subst h; rfl
  · rfl

/-- A re-evaluation changes nothing of a link but, where a window update is due, its RECEIPT flag (R17). -/
theorem State.link_reevaluate (s : State) (m : LinkId) :
    s.reevaluate.link m = if s.updateDue m then (s.link m).makeReceipt else s.link m := by
  show (Quad.map _ s.links).get m = _
  rw [Quad.get_map]; rfl

/-! ## Descriptors -/

@[simp] theorem State.desc_setDesc_same (d : DescId) (r : Descriptor) (s : State) : (s.setDesc d r).desc d = r := by
  unfold State.desc State.setDesc; simp only [Vector.get_eq_getElem, Vector.getElem_set_self]

theorem State.desc_setDesc (d x : DescId) (r : Descriptor) (s : State) :
    (s.setDesc d r).desc x = if x = d then r else s.desc x := by
  by_cases h : x = d
  · subst h; simp
  · have h' : ¬ d.val = x.val := fun e => h (Fin.ext e.symm)
    unfold State.desc State.setDesc; simp only [Vector.get_eq_getElem, h, if_false]; rw [Vector.getElem_set_ne]; exact h'

theorem State.desc_modDesc (d x : DescId) (f : Descriptor → Descriptor) (s : State) :
    (s.modDesc d f).desc x = if x = d ∧ (s.desc d).state ≠ .free then f (s.desc d) else s.desc x := by
  unfold State.modDesc; split
  · rename_i h; simp [h]
  · rename_i h; rw [State.desc_setDesc]; simp [h]

/-! ## modLink -/

@[simp] theorem State.pending_modLink (n : LinkId) (f : Link → Link) (s : State) : (s.modLink n f).pending = s.pending := rfl
@[simp] theorem State.mem_modLink (n : LinkId) (f : Link → Link) (s : State) : (s.modLink n f).mem = s.mem := rfl
@[simp] theorem State.descs_modLink (n : LinkId) (f : Link → Link) (s : State) : (s.modLink n f).descs = s.descs := rfl
@[simp] theorem State.freeDescs_modLink (n : LinkId) (f : Link → Link) (s : State) : (s.modLink n f).freeDescs = s.freeDescs := rfl
@[simp] theorem State.freeBlocks_modLink (n : LinkId) (f : Link → Link) (s : State) : (s.modLink n f).freeBlocks = s.freeBlocks := rfl
@[simp] theorem State.watermark_modLink (n : LinkId) (f : Link → Link) (s : State) : (s.modLink n f).watermark = s.watermark := rfl
@[simp] theorem State.armed_modLink (n : LinkId) (f : Link → Link) (s : State) : (s.modLink n f).armed = s.armed := rfl
@[simp] theorem State.rxd_modLink (n : LinkId) (f : Link → Link) (s : State) : (s.modLink n f).rxd = s.rxd := rfl
@[simp] theorem State.staging_modLink (n : LinkId) (f : Link → Link) (s : State) : (s.modLink n f).staging = s.staging := rfl
@[simp] theorem State.readPointer_modLink (n : LinkId) (f : Link → Link) (s : State) : (s.modLink n f).readPointer = s.readPointer := rfl
@[simp] theorem State.delivery_modLink (n : LinkId) (f : Link → Link) (s : State) : (s.modLink n f).delivery = s.delivery := rfl
@[simp] theorem State.completion_modLink (n : LinkId) (f : Link → Link) (s : State) : (s.modLink n f).completion = s.completion := rfl
@[simp] theorem State.globalEvents_modLink (n : LinkId) (f : Link → Link) (s : State) : (s.modLink n f).globalEvents = s.globalEvents := rfl
@[simp] theorem State.globalMask_modLink (n : LinkId) (f : Link → Link) (s : State) : (s.modLink n f).globalMask = s.globalMask := rfl
@[simp] theorem State.counterLink_modLink (n : LinkId) (f : Link → Link) (s : State) : (s.modLink n f).counterLink = s.counterLink := rfl
@[simp] theorem State.counterNumber_modLink (n : LinkId) (f : Link → Link) (s : State) : (s.modLink n f).counterNumber = s.counterNumber := rfl
@[simp] theorem State.readClears_modLink (n : LinkId) (f : Link → Link) (s : State) : (s.modLink n f).readClears = s.readClears := rfl
@[simp] theorem State.linkSelect_modLink (n : LinkId) (f : Link → Link) (s : State) : (s.modLink n f).linkSelect = s.linkSelect := rfl
@[simp] theorem State.argumentA_modLink (n : LinkId) (f : Link → Link) (s : State) : (s.modLink n f).argumentA = s.argumentA := rfl
@[simp] theorem State.argumentB_modLink (n : LinkId) (f : Link → Link) (s : State) : (s.modLink n f).argumentB = s.argumentB := rfl
@[simp] theorem State.resultCode_modLink (n : LinkId) (f : Link → Link) (s : State) : (s.modLink n f).resultCode = s.resultCode := rfl
@[simp] theorem State.resultCommand_modLink (n : LinkId) (f : Link → Link) (s : State) : (s.modLink n f).resultCommand = s.resultCommand := rfl
@[simp] theorem State.resetCause_modLink (n : LinkId) (f : Link → Link) (s : State) : (s.modLink n f).resetCause = s.resetCause := rfl
@[simp] theorem State.statusPosition_modLink (n : LinkId) (f : Link → Link) (s : State) : (s.modLink n f).statusPosition = s.statusPosition := rfl
@[simp] theorem State.statusHeld_modLink (n : LinkId) (f : Link → Link) (s : State) : (s.modLink n f).statusHeld = s.statusHeld := rfl
@[simp] theorem State.prescale_modLink (n : LinkId) (f : Link → Link) (s : State) : (s.modLink n f).prescale = s.prescale := rfl
@[simp] theorem State.tuLength_modLink (n : LinkId) (f : Link → Link) (s : State) : (s.modLink n f).tuLength = s.tuLength := rfl
@[simp] theorem State.tuElapsed_modLink (n : LinkId) (f : Link → Link) (s : State) : (s.modLink n f).tuElapsed = s.tuElapsed := rfl
@[simp] theorem State.readData_modLink (n : LinkId) (f : Link → Link) (s : State) : (s.modLink n f).readData = s.readData := rfl
@[simp] theorem State.freeIndex_modLink (n : LinkId) (f : Link → Link) (s : State) : (s.modLink n f).freeIndex = s.freeIndex := rfl
@[simp] theorem State.desc_modLink (n : LinkId) (f : Link → Link) (s : State) (x : DescId) : (s.modLink n f).desc x = s.desc x := rfl

/-! ## modLE -/

@[simp] theorem State.pending_modLE (n : LinkId) (f : LinkEngine → LinkEngine) (s : State) : (s.modLE n f).pending = s.pending := rfl
@[simp] theorem State.mem_modLE (n : LinkId) (f : LinkEngine → LinkEngine) (s : State) : (s.modLE n f).mem = s.mem := rfl
@[simp] theorem State.descs_modLE (n : LinkId) (f : LinkEngine → LinkEngine) (s : State) : (s.modLE n f).descs = s.descs := rfl
@[simp] theorem State.freeDescs_modLE (n : LinkId) (f : LinkEngine → LinkEngine) (s : State) : (s.modLE n f).freeDescs = s.freeDescs := rfl
@[simp] theorem State.freeBlocks_modLE (n : LinkId) (f : LinkEngine → LinkEngine) (s : State) : (s.modLE n f).freeBlocks = s.freeBlocks := rfl
@[simp] theorem State.watermark_modLE (n : LinkId) (f : LinkEngine → LinkEngine) (s : State) : (s.modLE n f).watermark = s.watermark := rfl
@[simp] theorem State.armed_modLE (n : LinkId) (f : LinkEngine → LinkEngine) (s : State) : (s.modLE n f).armed = s.armed := rfl
@[simp] theorem State.rxd_modLE (n : LinkId) (f : LinkEngine → LinkEngine) (s : State) : (s.modLE n f).rxd = s.rxd := rfl
@[simp] theorem State.staging_modLE (n : LinkId) (f : LinkEngine → LinkEngine) (s : State) : (s.modLE n f).staging = s.staging := rfl
@[simp] theorem State.readPointer_modLE (n : LinkId) (f : LinkEngine → LinkEngine) (s : State) : (s.modLE n f).readPointer = s.readPointer := rfl
@[simp] theorem State.delivery_modLE (n : LinkId) (f : LinkEngine → LinkEngine) (s : State) : (s.modLE n f).delivery = s.delivery := rfl
@[simp] theorem State.completion_modLE (n : LinkId) (f : LinkEngine → LinkEngine) (s : State) : (s.modLE n f).completion = s.completion := rfl
@[simp] theorem State.globalEvents_modLE (n : LinkId) (f : LinkEngine → LinkEngine) (s : State) : (s.modLE n f).globalEvents = s.globalEvents := rfl
@[simp] theorem State.globalMask_modLE (n : LinkId) (f : LinkEngine → LinkEngine) (s : State) : (s.modLE n f).globalMask = s.globalMask := rfl
@[simp] theorem State.counterLink_modLE (n : LinkId) (f : LinkEngine → LinkEngine) (s : State) : (s.modLE n f).counterLink = s.counterLink := rfl
@[simp] theorem State.counterNumber_modLE (n : LinkId) (f : LinkEngine → LinkEngine) (s : State) : (s.modLE n f).counterNumber = s.counterNumber := rfl
@[simp] theorem State.readClears_modLE (n : LinkId) (f : LinkEngine → LinkEngine) (s : State) : (s.modLE n f).readClears = s.readClears := rfl
@[simp] theorem State.linkSelect_modLE (n : LinkId) (f : LinkEngine → LinkEngine) (s : State) : (s.modLE n f).linkSelect = s.linkSelect := rfl
@[simp] theorem State.argumentA_modLE (n : LinkId) (f : LinkEngine → LinkEngine) (s : State) : (s.modLE n f).argumentA = s.argumentA := rfl
@[simp] theorem State.argumentB_modLE (n : LinkId) (f : LinkEngine → LinkEngine) (s : State) : (s.modLE n f).argumentB = s.argumentB := rfl
@[simp] theorem State.resultCode_modLE (n : LinkId) (f : LinkEngine → LinkEngine) (s : State) : (s.modLE n f).resultCode = s.resultCode := rfl
@[simp] theorem State.resultCommand_modLE (n : LinkId) (f : LinkEngine → LinkEngine) (s : State) : (s.modLE n f).resultCommand = s.resultCommand := rfl
@[simp] theorem State.resetCause_modLE (n : LinkId) (f : LinkEngine → LinkEngine) (s : State) : (s.modLE n f).resetCause = s.resetCause := rfl
@[simp] theorem State.statusPosition_modLE (n : LinkId) (f : LinkEngine → LinkEngine) (s : State) : (s.modLE n f).statusPosition = s.statusPosition := rfl
@[simp] theorem State.statusHeld_modLE (n : LinkId) (f : LinkEngine → LinkEngine) (s : State) : (s.modLE n f).statusHeld = s.statusHeld := rfl
@[simp] theorem State.prescale_modLE (n : LinkId) (f : LinkEngine → LinkEngine) (s : State) : (s.modLE n f).prescale = s.prescale := rfl
@[simp] theorem State.tuLength_modLE (n : LinkId) (f : LinkEngine → LinkEngine) (s : State) : (s.modLE n f).tuLength = s.tuLength := rfl
@[simp] theorem State.tuElapsed_modLE (n : LinkId) (f : LinkEngine → LinkEngine) (s : State) : (s.modLE n f).tuElapsed = s.tuElapsed := rfl
@[simp] theorem State.readData_modLE (n : LinkId) (f : LinkEngine → LinkEngine) (s : State) : (s.modLE n f).readData = s.readData := rfl
@[simp] theorem State.freeIndex_modLE (n : LinkId) (f : LinkEngine → LinkEngine) (s : State) : (s.modLE n f).freeIndex = s.freeIndex := rfl
@[simp] theorem State.desc_modLE (n : LinkId) (f : LinkEngine → LinkEngine) (s : State) (x : DescId) : (s.modLE n f).desc x = s.desc x := rfl

/-! ## modLU -/

@[simp] theorem State.pending_modLU (n : LinkId) (f : LineUnit → LineUnit) (s : State) : (s.modLU n f).pending = s.pending := rfl
@[simp] theorem State.mem_modLU (n : LinkId) (f : LineUnit → LineUnit) (s : State) : (s.modLU n f).mem = s.mem := rfl
@[simp] theorem State.descs_modLU (n : LinkId) (f : LineUnit → LineUnit) (s : State) : (s.modLU n f).descs = s.descs := rfl
@[simp] theorem State.freeDescs_modLU (n : LinkId) (f : LineUnit → LineUnit) (s : State) : (s.modLU n f).freeDescs = s.freeDescs := rfl
@[simp] theorem State.freeBlocks_modLU (n : LinkId) (f : LineUnit → LineUnit) (s : State) : (s.modLU n f).freeBlocks = s.freeBlocks := rfl
@[simp] theorem State.watermark_modLU (n : LinkId) (f : LineUnit → LineUnit) (s : State) : (s.modLU n f).watermark = s.watermark := rfl
@[simp] theorem State.armed_modLU (n : LinkId) (f : LineUnit → LineUnit) (s : State) : (s.modLU n f).armed = s.armed := rfl
@[simp] theorem State.rxd_modLU (n : LinkId) (f : LineUnit → LineUnit) (s : State) : (s.modLU n f).rxd = s.rxd := rfl
@[simp] theorem State.staging_modLU (n : LinkId) (f : LineUnit → LineUnit) (s : State) : (s.modLU n f).staging = s.staging := rfl
@[simp] theorem State.readPointer_modLU (n : LinkId) (f : LineUnit → LineUnit) (s : State) : (s.modLU n f).readPointer = s.readPointer := rfl
@[simp] theorem State.delivery_modLU (n : LinkId) (f : LineUnit → LineUnit) (s : State) : (s.modLU n f).delivery = s.delivery := rfl
@[simp] theorem State.completion_modLU (n : LinkId) (f : LineUnit → LineUnit) (s : State) : (s.modLU n f).completion = s.completion := rfl
@[simp] theorem State.globalEvents_modLU (n : LinkId) (f : LineUnit → LineUnit) (s : State) : (s.modLU n f).globalEvents = s.globalEvents := rfl
@[simp] theorem State.globalMask_modLU (n : LinkId) (f : LineUnit → LineUnit) (s : State) : (s.modLU n f).globalMask = s.globalMask := rfl
@[simp] theorem State.counterLink_modLU (n : LinkId) (f : LineUnit → LineUnit) (s : State) : (s.modLU n f).counterLink = s.counterLink := rfl
@[simp] theorem State.counterNumber_modLU (n : LinkId) (f : LineUnit → LineUnit) (s : State) : (s.modLU n f).counterNumber = s.counterNumber := rfl
@[simp] theorem State.readClears_modLU (n : LinkId) (f : LineUnit → LineUnit) (s : State) : (s.modLU n f).readClears = s.readClears := rfl
@[simp] theorem State.linkSelect_modLU (n : LinkId) (f : LineUnit → LineUnit) (s : State) : (s.modLU n f).linkSelect = s.linkSelect := rfl
@[simp] theorem State.argumentA_modLU (n : LinkId) (f : LineUnit → LineUnit) (s : State) : (s.modLU n f).argumentA = s.argumentA := rfl
@[simp] theorem State.argumentB_modLU (n : LinkId) (f : LineUnit → LineUnit) (s : State) : (s.modLU n f).argumentB = s.argumentB := rfl
@[simp] theorem State.resultCode_modLU (n : LinkId) (f : LineUnit → LineUnit) (s : State) : (s.modLU n f).resultCode = s.resultCode := rfl
@[simp] theorem State.resultCommand_modLU (n : LinkId) (f : LineUnit → LineUnit) (s : State) : (s.modLU n f).resultCommand = s.resultCommand := rfl
@[simp] theorem State.resetCause_modLU (n : LinkId) (f : LineUnit → LineUnit) (s : State) : (s.modLU n f).resetCause = s.resetCause := rfl
@[simp] theorem State.statusPosition_modLU (n : LinkId) (f : LineUnit → LineUnit) (s : State) : (s.modLU n f).statusPosition = s.statusPosition := rfl
@[simp] theorem State.statusHeld_modLU (n : LinkId) (f : LineUnit → LineUnit) (s : State) : (s.modLU n f).statusHeld = s.statusHeld := rfl
@[simp] theorem State.prescale_modLU (n : LinkId) (f : LineUnit → LineUnit) (s : State) : (s.modLU n f).prescale = s.prescale := rfl
@[simp] theorem State.tuLength_modLU (n : LinkId) (f : LineUnit → LineUnit) (s : State) : (s.modLU n f).tuLength = s.tuLength := rfl
@[simp] theorem State.tuElapsed_modLU (n : LinkId) (f : LineUnit → LineUnit) (s : State) : (s.modLU n f).tuElapsed = s.tuElapsed := rfl
@[simp] theorem State.readData_modLU (n : LinkId) (f : LineUnit → LineUnit) (s : State) : (s.modLU n f).readData = s.readData := rfl
@[simp] theorem State.freeIndex_modLU (n : LinkId) (f : LineUnit → LineUnit) (s : State) : (s.modLU n f).freeIndex = s.freeIndex := rfl
@[simp] theorem State.desc_modLU (n : LinkId) (f : LineUnit → LineUnit) (s : State) (x : DescId) : (s.modLU n f).desc x = s.desc x := rfl

/-! ## setEvent -/

@[simp] theorem State.pending_setEvent (n : LinkId) (e : LinkEvent) (s : State) : (s.setEvent n e).pending = s.pending := rfl
@[simp] theorem State.mem_setEvent (n : LinkId) (e : LinkEvent) (s : State) : (s.setEvent n e).mem = s.mem := rfl
@[simp] theorem State.descs_setEvent (n : LinkId) (e : LinkEvent) (s : State) : (s.setEvent n e).descs = s.descs := rfl
@[simp] theorem State.freeDescs_setEvent (n : LinkId) (e : LinkEvent) (s : State) : (s.setEvent n e).freeDescs = s.freeDescs := rfl
@[simp] theorem State.freeBlocks_setEvent (n : LinkId) (e : LinkEvent) (s : State) : (s.setEvent n e).freeBlocks = s.freeBlocks := rfl
@[simp] theorem State.watermark_setEvent (n : LinkId) (e : LinkEvent) (s : State) : (s.setEvent n e).watermark = s.watermark := rfl
@[simp] theorem State.armed_setEvent (n : LinkId) (e : LinkEvent) (s : State) : (s.setEvent n e).armed = s.armed := rfl
@[simp] theorem State.rxd_setEvent (n : LinkId) (e : LinkEvent) (s : State) : (s.setEvent n e).rxd = s.rxd := rfl
@[simp] theorem State.staging_setEvent (n : LinkId) (e : LinkEvent) (s : State) : (s.setEvent n e).staging = s.staging := rfl
@[simp] theorem State.readPointer_setEvent (n : LinkId) (e : LinkEvent) (s : State) : (s.setEvent n e).readPointer = s.readPointer := rfl
@[simp] theorem State.delivery_setEvent (n : LinkId) (e : LinkEvent) (s : State) : (s.setEvent n e).delivery = s.delivery := rfl
@[simp] theorem State.completion_setEvent (n : LinkId) (e : LinkEvent) (s : State) : (s.setEvent n e).completion = s.completion := rfl
@[simp] theorem State.globalEvents_setEvent (n : LinkId) (e : LinkEvent) (s : State) : (s.setEvent n e).globalEvents = s.globalEvents := rfl
@[simp] theorem State.globalMask_setEvent (n : LinkId) (e : LinkEvent) (s : State) : (s.setEvent n e).globalMask = s.globalMask := rfl
@[simp] theorem State.counterLink_setEvent (n : LinkId) (e : LinkEvent) (s : State) : (s.setEvent n e).counterLink = s.counterLink := rfl
@[simp] theorem State.counterNumber_setEvent (n : LinkId) (e : LinkEvent) (s : State) : (s.setEvent n e).counterNumber = s.counterNumber := rfl
@[simp] theorem State.readClears_setEvent (n : LinkId) (e : LinkEvent) (s : State) : (s.setEvent n e).readClears = s.readClears := rfl
@[simp] theorem State.linkSelect_setEvent (n : LinkId) (e : LinkEvent) (s : State) : (s.setEvent n e).linkSelect = s.linkSelect := rfl
@[simp] theorem State.argumentA_setEvent (n : LinkId) (e : LinkEvent) (s : State) : (s.setEvent n e).argumentA = s.argumentA := rfl
@[simp] theorem State.argumentB_setEvent (n : LinkId) (e : LinkEvent) (s : State) : (s.setEvent n e).argumentB = s.argumentB := rfl
@[simp] theorem State.resultCode_setEvent (n : LinkId) (e : LinkEvent) (s : State) : (s.setEvent n e).resultCode = s.resultCode := rfl
@[simp] theorem State.resultCommand_setEvent (n : LinkId) (e : LinkEvent) (s : State) : (s.setEvent n e).resultCommand = s.resultCommand := rfl
@[simp] theorem State.resetCause_setEvent (n : LinkId) (e : LinkEvent) (s : State) : (s.setEvent n e).resetCause = s.resetCause := rfl
@[simp] theorem State.statusPosition_setEvent (n : LinkId) (e : LinkEvent) (s : State) : (s.setEvent n e).statusPosition = s.statusPosition := rfl
@[simp] theorem State.statusHeld_setEvent (n : LinkId) (e : LinkEvent) (s : State) : (s.setEvent n e).statusHeld = s.statusHeld := rfl
@[simp] theorem State.prescale_setEvent (n : LinkId) (e : LinkEvent) (s : State) : (s.setEvent n e).prescale = s.prescale := rfl
@[simp] theorem State.tuLength_setEvent (n : LinkId) (e : LinkEvent) (s : State) : (s.setEvent n e).tuLength = s.tuLength := rfl
@[simp] theorem State.tuElapsed_setEvent (n : LinkId) (e : LinkEvent) (s : State) : (s.setEvent n e).tuElapsed = s.tuElapsed := rfl
@[simp] theorem State.readData_setEvent (n : LinkId) (e : LinkEvent) (s : State) : (s.setEvent n e).readData = s.readData := rfl
@[simp] theorem State.freeIndex_setEvent (n : LinkId) (e : LinkEvent) (s : State) : (s.setEvent n e).freeIndex = s.freeIndex := rfl
@[simp] theorem State.desc_setEvent (n : LinkId) (e : LinkEvent) (s : State) (x : DescId) : (s.setEvent n e).desc x = s.desc x := rfl

/-! ## makeReceipt -/

@[simp] theorem State.pending_makeReceipt (n : LinkId) (s : State) : (s.makeReceipt n).pending = s.pending := rfl
@[simp] theorem State.mem_makeReceipt (n : LinkId) (s : State) : (s.makeReceipt n).mem = s.mem := rfl
@[simp] theorem State.descs_makeReceipt (n : LinkId) (s : State) : (s.makeReceipt n).descs = s.descs := rfl
@[simp] theorem State.freeDescs_makeReceipt (n : LinkId) (s : State) : (s.makeReceipt n).freeDescs = s.freeDescs := rfl
@[simp] theorem State.freeBlocks_makeReceipt (n : LinkId) (s : State) : (s.makeReceipt n).freeBlocks = s.freeBlocks := rfl
@[simp] theorem State.watermark_makeReceipt (n : LinkId) (s : State) : (s.makeReceipt n).watermark = s.watermark := rfl
@[simp] theorem State.armed_makeReceipt (n : LinkId) (s : State) : (s.makeReceipt n).armed = s.armed := rfl
@[simp] theorem State.rxd_makeReceipt (n : LinkId) (s : State) : (s.makeReceipt n).rxd = s.rxd := rfl
@[simp] theorem State.staging_makeReceipt (n : LinkId) (s : State) : (s.makeReceipt n).staging = s.staging := rfl
@[simp] theorem State.readPointer_makeReceipt (n : LinkId) (s : State) : (s.makeReceipt n).readPointer = s.readPointer := rfl
@[simp] theorem State.delivery_makeReceipt (n : LinkId) (s : State) : (s.makeReceipt n).delivery = s.delivery := rfl
@[simp] theorem State.completion_makeReceipt (n : LinkId) (s : State) : (s.makeReceipt n).completion = s.completion := rfl
@[simp] theorem State.globalEvents_makeReceipt (n : LinkId) (s : State) : (s.makeReceipt n).globalEvents = s.globalEvents := rfl
@[simp] theorem State.globalMask_makeReceipt (n : LinkId) (s : State) : (s.makeReceipt n).globalMask = s.globalMask := rfl
@[simp] theorem State.counterLink_makeReceipt (n : LinkId) (s : State) : (s.makeReceipt n).counterLink = s.counterLink := rfl
@[simp] theorem State.counterNumber_makeReceipt (n : LinkId) (s : State) : (s.makeReceipt n).counterNumber = s.counterNumber := rfl
@[simp] theorem State.readClears_makeReceipt (n : LinkId) (s : State) : (s.makeReceipt n).readClears = s.readClears := rfl
@[simp] theorem State.linkSelect_makeReceipt (n : LinkId) (s : State) : (s.makeReceipt n).linkSelect = s.linkSelect := rfl
@[simp] theorem State.argumentA_makeReceipt (n : LinkId) (s : State) : (s.makeReceipt n).argumentA = s.argumentA := rfl
@[simp] theorem State.argumentB_makeReceipt (n : LinkId) (s : State) : (s.makeReceipt n).argumentB = s.argumentB := rfl
@[simp] theorem State.resultCode_makeReceipt (n : LinkId) (s : State) : (s.makeReceipt n).resultCode = s.resultCode := rfl
@[simp] theorem State.resultCommand_makeReceipt (n : LinkId) (s : State) : (s.makeReceipt n).resultCommand = s.resultCommand := rfl
@[simp] theorem State.resetCause_makeReceipt (n : LinkId) (s : State) : (s.makeReceipt n).resetCause = s.resetCause := rfl
@[simp] theorem State.statusPosition_makeReceipt (n : LinkId) (s : State) : (s.makeReceipt n).statusPosition = s.statusPosition := rfl
@[simp] theorem State.statusHeld_makeReceipt (n : LinkId) (s : State) : (s.makeReceipt n).statusHeld = s.statusHeld := rfl
@[simp] theorem State.prescale_makeReceipt (n : LinkId) (s : State) : (s.makeReceipt n).prescale = s.prescale := rfl
@[simp] theorem State.tuLength_makeReceipt (n : LinkId) (s : State) : (s.makeReceipt n).tuLength = s.tuLength := rfl
@[simp] theorem State.tuElapsed_makeReceipt (n : LinkId) (s : State) : (s.makeReceipt n).tuElapsed = s.tuElapsed := rfl
@[simp] theorem State.readData_makeReceipt (n : LinkId) (s : State) : (s.makeReceipt n).readData = s.readData := rfl
@[simp] theorem State.freeIndex_makeReceipt (n : LinkId) (s : State) : (s.makeReceipt n).freeIndex = s.freeIndex := rfl
@[simp] theorem State.desc_makeReceipt (n : LinkId) (s : State) (x : DescId) : (s.makeReceipt n).desc x = s.desc x := rfl

/-! ## makeDrop -/

@[simp] theorem State.pending_makeDrop (n : LinkId) (e : Epoch) (s : State) : (s.makeDrop n e).pending = s.pending := rfl
@[simp] theorem State.mem_makeDrop (n : LinkId) (e : Epoch) (s : State) : (s.makeDrop n e).mem = s.mem := rfl
@[simp] theorem State.descs_makeDrop (n : LinkId) (e : Epoch) (s : State) : (s.makeDrop n e).descs = s.descs := rfl
@[simp] theorem State.freeDescs_makeDrop (n : LinkId) (e : Epoch) (s : State) : (s.makeDrop n e).freeDescs = s.freeDescs := rfl
@[simp] theorem State.freeBlocks_makeDrop (n : LinkId) (e : Epoch) (s : State) : (s.makeDrop n e).freeBlocks = s.freeBlocks := rfl
@[simp] theorem State.watermark_makeDrop (n : LinkId) (e : Epoch) (s : State) : (s.makeDrop n e).watermark = s.watermark := rfl
@[simp] theorem State.armed_makeDrop (n : LinkId) (e : Epoch) (s : State) : (s.makeDrop n e).armed = s.armed := rfl
@[simp] theorem State.rxd_makeDrop (n : LinkId) (e : Epoch) (s : State) : (s.makeDrop n e).rxd = s.rxd := rfl
@[simp] theorem State.staging_makeDrop (n : LinkId) (e : Epoch) (s : State) : (s.makeDrop n e).staging = s.staging := rfl
@[simp] theorem State.readPointer_makeDrop (n : LinkId) (e : Epoch) (s : State) : (s.makeDrop n e).readPointer = s.readPointer := rfl
@[simp] theorem State.delivery_makeDrop (n : LinkId) (e : Epoch) (s : State) : (s.makeDrop n e).delivery = s.delivery := rfl
@[simp] theorem State.completion_makeDrop (n : LinkId) (e : Epoch) (s : State) : (s.makeDrop n e).completion = s.completion := rfl
@[simp] theorem State.globalEvents_makeDrop (n : LinkId) (e : Epoch) (s : State) : (s.makeDrop n e).globalEvents = s.globalEvents := rfl
@[simp] theorem State.globalMask_makeDrop (n : LinkId) (e : Epoch) (s : State) : (s.makeDrop n e).globalMask = s.globalMask := rfl
@[simp] theorem State.counterLink_makeDrop (n : LinkId) (e : Epoch) (s : State) : (s.makeDrop n e).counterLink = s.counterLink := rfl
@[simp] theorem State.counterNumber_makeDrop (n : LinkId) (e : Epoch) (s : State) : (s.makeDrop n e).counterNumber = s.counterNumber := rfl
@[simp] theorem State.readClears_makeDrop (n : LinkId) (e : Epoch) (s : State) : (s.makeDrop n e).readClears = s.readClears := rfl
@[simp] theorem State.linkSelect_makeDrop (n : LinkId) (e : Epoch) (s : State) : (s.makeDrop n e).linkSelect = s.linkSelect := rfl
@[simp] theorem State.argumentA_makeDrop (n : LinkId) (e : Epoch) (s : State) : (s.makeDrop n e).argumentA = s.argumentA := rfl
@[simp] theorem State.argumentB_makeDrop (n : LinkId) (e : Epoch) (s : State) : (s.makeDrop n e).argumentB = s.argumentB := rfl
@[simp] theorem State.resultCode_makeDrop (n : LinkId) (e : Epoch) (s : State) : (s.makeDrop n e).resultCode = s.resultCode := rfl
@[simp] theorem State.resultCommand_makeDrop (n : LinkId) (e : Epoch) (s : State) : (s.makeDrop n e).resultCommand = s.resultCommand := rfl
@[simp] theorem State.resetCause_makeDrop (n : LinkId) (e : Epoch) (s : State) : (s.makeDrop n e).resetCause = s.resetCause := rfl
@[simp] theorem State.statusPosition_makeDrop (n : LinkId) (e : Epoch) (s : State) : (s.makeDrop n e).statusPosition = s.statusPosition := rfl
@[simp] theorem State.statusHeld_makeDrop (n : LinkId) (e : Epoch) (s : State) : (s.makeDrop n e).statusHeld = s.statusHeld := rfl
@[simp] theorem State.prescale_makeDrop (n : LinkId) (e : Epoch) (s : State) : (s.makeDrop n e).prescale = s.prescale := rfl
@[simp] theorem State.tuLength_makeDrop (n : LinkId) (e : Epoch) (s : State) : (s.makeDrop n e).tuLength = s.tuLength := rfl
@[simp] theorem State.tuElapsed_makeDrop (n : LinkId) (e : Epoch) (s : State) : (s.makeDrop n e).tuElapsed = s.tuElapsed := rfl
@[simp] theorem State.readData_makeDrop (n : LinkId) (e : Epoch) (s : State) : (s.makeDrop n e).readData = s.readData := rfl
@[simp] theorem State.freeIndex_makeDrop (n : LinkId) (e : Epoch) (s : State) : (s.makeDrop n e).freeIndex = s.freeIndex := rfl
@[simp] theorem State.desc_makeDrop (n : LinkId) (e : Epoch) (s : State) (x : DescId) : (s.makeDrop n e).desc x = s.desc x := rfl

/-! ## reevaluate -/

@[simp] theorem State.pending_reevaluate (s : State) : s.reevaluate.pending = s.pending := rfl
@[simp] theorem State.mem_reevaluate (s : State) : s.reevaluate.mem = s.mem := rfl
@[simp] theorem State.descs_reevaluate (s : State) : s.reevaluate.descs = s.descs := rfl
@[simp] theorem State.freeDescs_reevaluate (s : State) : s.reevaluate.freeDescs = s.freeDescs := rfl
@[simp] theorem State.freeBlocks_reevaluate (s : State) : s.reevaluate.freeBlocks = s.freeBlocks := rfl
@[simp] theorem State.watermark_reevaluate (s : State) : s.reevaluate.watermark = s.watermark := rfl
@[simp] theorem State.armed_reevaluate (s : State) : s.reevaluate.armed = s.armed := rfl
@[simp] theorem State.rxd_reevaluate (s : State) : s.reevaluate.rxd = s.rxd := rfl
@[simp] theorem State.staging_reevaluate (s : State) : s.reevaluate.staging = s.staging := rfl
@[simp] theorem State.readPointer_reevaluate (s : State) : s.reevaluate.readPointer = s.readPointer := rfl
@[simp] theorem State.delivery_reevaluate (s : State) : s.reevaluate.delivery = s.delivery := rfl
@[simp] theorem State.completion_reevaluate (s : State) : s.reevaluate.completion = s.completion := rfl
@[simp] theorem State.globalEvents_reevaluate (s : State) : s.reevaluate.globalEvents = s.globalEvents := rfl
@[simp] theorem State.globalMask_reevaluate (s : State) : s.reevaluate.globalMask = s.globalMask := rfl
@[simp] theorem State.counterLink_reevaluate (s : State) : s.reevaluate.counterLink = s.counterLink := rfl
@[simp] theorem State.counterNumber_reevaluate (s : State) : s.reevaluate.counterNumber = s.counterNumber := rfl
@[simp] theorem State.readClears_reevaluate (s : State) : s.reevaluate.readClears = s.readClears := rfl
@[simp] theorem State.linkSelect_reevaluate (s : State) : s.reevaluate.linkSelect = s.linkSelect := rfl
@[simp] theorem State.argumentA_reevaluate (s : State) : s.reevaluate.argumentA = s.argumentA := rfl
@[simp] theorem State.argumentB_reevaluate (s : State) : s.reevaluate.argumentB = s.argumentB := rfl
@[simp] theorem State.resultCode_reevaluate (s : State) : s.reevaluate.resultCode = s.resultCode := rfl
@[simp] theorem State.resultCommand_reevaluate (s : State) : s.reevaluate.resultCommand = s.resultCommand := rfl
@[simp] theorem State.resetCause_reevaluate (s : State) : s.reevaluate.resetCause = s.resetCause := rfl
@[simp] theorem State.statusPosition_reevaluate (s : State) : s.reevaluate.statusPosition = s.statusPosition := rfl
@[simp] theorem State.statusHeld_reevaluate (s : State) : s.reevaluate.statusHeld = s.statusHeld := rfl
@[simp] theorem State.prescale_reevaluate (s : State) : s.reevaluate.prescale = s.prescale := rfl
@[simp] theorem State.tuLength_reevaluate (s : State) : s.reevaluate.tuLength = s.tuLength := rfl
@[simp] theorem State.tuElapsed_reevaluate (s : State) : s.reevaluate.tuElapsed = s.tuElapsed := rfl
@[simp] theorem State.readData_reevaluate (s : State) : s.reevaluate.readData = s.readData := rfl
@[simp] theorem State.freeIndex_reevaluate (s : State) : s.reevaluate.freeIndex = s.freeIndex := rfl
@[simp] theorem State.desc_reevaluate (s : State) (x : DescId) : s.reevaluate.desc x = s.desc x := rfl

/-! ## setDesc -/

@[simp] theorem State.pending_setDesc (d : DescId) (r : Descriptor) (s : State) : (s.setDesc d r).pending = s.pending := rfl
@[simp] theorem State.mem_setDesc (d : DescId) (r : Descriptor) (s : State) : (s.setDesc d r).mem = s.mem := rfl
@[simp] theorem State.freeDescs_setDesc (d : DescId) (r : Descriptor) (s : State) : (s.setDesc d r).freeDescs = s.freeDescs := rfl
@[simp] theorem State.freeBlocks_setDesc (d : DescId) (r : Descriptor) (s : State) : (s.setDesc d r).freeBlocks = s.freeBlocks := rfl
@[simp] theorem State.watermark_setDesc (d : DescId) (r : Descriptor) (s : State) : (s.setDesc d r).watermark = s.watermark := rfl
@[simp] theorem State.armed_setDesc (d : DescId) (r : Descriptor) (s : State) : (s.setDesc d r).armed = s.armed := rfl
@[simp] theorem State.links_setDesc (d : DescId) (r : Descriptor) (s : State) : (s.setDesc d r).links = s.links := rfl
@[simp] theorem State.rxd_setDesc (d : DescId) (r : Descriptor) (s : State) : (s.setDesc d r).rxd = s.rxd := rfl
@[simp] theorem State.staging_setDesc (d : DescId) (r : Descriptor) (s : State) : (s.setDesc d r).staging = s.staging := rfl
@[simp] theorem State.readPointer_setDesc (d : DescId) (r : Descriptor) (s : State) : (s.setDesc d r).readPointer = s.readPointer := rfl
@[simp] theorem State.delivery_setDesc (d : DescId) (r : Descriptor) (s : State) : (s.setDesc d r).delivery = s.delivery := rfl
@[simp] theorem State.completion_setDesc (d : DescId) (r : Descriptor) (s : State) : (s.setDesc d r).completion = s.completion := rfl
@[simp] theorem State.globalEvents_setDesc (d : DescId) (r : Descriptor) (s : State) : (s.setDesc d r).globalEvents = s.globalEvents := rfl
@[simp] theorem State.globalMask_setDesc (d : DescId) (r : Descriptor) (s : State) : (s.setDesc d r).globalMask = s.globalMask := rfl
@[simp] theorem State.counterLink_setDesc (d : DescId) (r : Descriptor) (s : State) : (s.setDesc d r).counterLink = s.counterLink := rfl
@[simp] theorem State.counterNumber_setDesc (d : DescId) (r : Descriptor) (s : State) : (s.setDesc d r).counterNumber = s.counterNumber := rfl
@[simp] theorem State.readClears_setDesc (d : DescId) (r : Descriptor) (s : State) : (s.setDesc d r).readClears = s.readClears := rfl
@[simp] theorem State.linkSelect_setDesc (d : DescId) (r : Descriptor) (s : State) : (s.setDesc d r).linkSelect = s.linkSelect := rfl
@[simp] theorem State.argumentA_setDesc (d : DescId) (r : Descriptor) (s : State) : (s.setDesc d r).argumentA = s.argumentA := rfl
@[simp] theorem State.argumentB_setDesc (d : DescId) (r : Descriptor) (s : State) : (s.setDesc d r).argumentB = s.argumentB := rfl
@[simp] theorem State.resultCode_setDesc (d : DescId) (r : Descriptor) (s : State) : (s.setDesc d r).resultCode = s.resultCode := rfl
@[simp] theorem State.resultCommand_setDesc (d : DescId) (r : Descriptor) (s : State) : (s.setDesc d r).resultCommand = s.resultCommand := rfl
@[simp] theorem State.resetCause_setDesc (d : DescId) (r : Descriptor) (s : State) : (s.setDesc d r).resetCause = s.resetCause := rfl
@[simp] theorem State.statusPosition_setDesc (d : DescId) (r : Descriptor) (s : State) : (s.setDesc d r).statusPosition = s.statusPosition := rfl
@[simp] theorem State.statusHeld_setDesc (d : DescId) (r : Descriptor) (s : State) : (s.setDesc d r).statusHeld = s.statusHeld := rfl
@[simp] theorem State.prescale_setDesc (d : DescId) (r : Descriptor) (s : State) : (s.setDesc d r).prescale = s.prescale := rfl
@[simp] theorem State.tuLength_setDesc (d : DescId) (r : Descriptor) (s : State) : (s.setDesc d r).tuLength = s.tuLength := rfl
@[simp] theorem State.tuElapsed_setDesc (d : DescId) (r : Descriptor) (s : State) : (s.setDesc d r).tuElapsed = s.tuElapsed := rfl
@[simp] theorem State.readData_setDesc (d : DescId) (r : Descriptor) (s : State) : (s.setDesc d r).readData = s.readData := rfl
@[simp] theorem State.freeIndex_setDesc (d : DescId) (r : Descriptor) (s : State) : (s.setDesc d r).freeIndex = s.freeIndex := rfl
@[simp] theorem State.link_setDesc (d : DescId) (r : Descriptor) (s : State) (m : LinkId) : (s.setDesc d r).link m = s.link m := rfl
@[simp] theorem State.le_setDesc (d : DescId) (r : Descriptor) (s : State) (m : LinkId) : (s.setDesc d r).le m = s.le m := rfl
@[simp] theorem State.lu_setDesc (d : DescId) (r : Descriptor) (s : State) (m : LinkId) : (s.setDesc d r).lu m = s.lu m := rfl

/-! ## setGlobal -/

@[simp] theorem State.pending_setGlobal (e : GlobalEvent) (s : State) : (s.setGlobal e).pending = s.pending := rfl
@[simp] theorem State.mem_setGlobal (e : GlobalEvent) (s : State) : (s.setGlobal e).mem = s.mem := rfl
@[simp] theorem State.descs_setGlobal (e : GlobalEvent) (s : State) : (s.setGlobal e).descs = s.descs := rfl
@[simp] theorem State.freeDescs_setGlobal (e : GlobalEvent) (s : State) : (s.setGlobal e).freeDescs = s.freeDescs := rfl
@[simp] theorem State.freeBlocks_setGlobal (e : GlobalEvent) (s : State) : (s.setGlobal e).freeBlocks = s.freeBlocks := rfl
@[simp] theorem State.watermark_setGlobal (e : GlobalEvent) (s : State) : (s.setGlobal e).watermark = s.watermark := rfl
@[simp] theorem State.armed_setGlobal (e : GlobalEvent) (s : State) : (s.setGlobal e).armed = s.armed := rfl
@[simp] theorem State.links_setGlobal (e : GlobalEvent) (s : State) : (s.setGlobal e).links = s.links := rfl
@[simp] theorem State.rxd_setGlobal (e : GlobalEvent) (s : State) : (s.setGlobal e).rxd = s.rxd := rfl
@[simp] theorem State.staging_setGlobal (e : GlobalEvent) (s : State) : (s.setGlobal e).staging = s.staging := rfl
@[simp] theorem State.readPointer_setGlobal (e : GlobalEvent) (s : State) : (s.setGlobal e).readPointer = s.readPointer := rfl
@[simp] theorem State.delivery_setGlobal (e : GlobalEvent) (s : State) : (s.setGlobal e).delivery = s.delivery := rfl
@[simp] theorem State.completion_setGlobal (e : GlobalEvent) (s : State) : (s.setGlobal e).completion = s.completion := rfl
@[simp] theorem State.globalMask_setGlobal (e : GlobalEvent) (s : State) : (s.setGlobal e).globalMask = s.globalMask := rfl
@[simp] theorem State.counterLink_setGlobal (e : GlobalEvent) (s : State) : (s.setGlobal e).counterLink = s.counterLink := rfl
@[simp] theorem State.counterNumber_setGlobal (e : GlobalEvent) (s : State) : (s.setGlobal e).counterNumber = s.counterNumber := rfl
@[simp] theorem State.readClears_setGlobal (e : GlobalEvent) (s : State) : (s.setGlobal e).readClears = s.readClears := rfl
@[simp] theorem State.linkSelect_setGlobal (e : GlobalEvent) (s : State) : (s.setGlobal e).linkSelect = s.linkSelect := rfl
@[simp] theorem State.argumentA_setGlobal (e : GlobalEvent) (s : State) : (s.setGlobal e).argumentA = s.argumentA := rfl
@[simp] theorem State.argumentB_setGlobal (e : GlobalEvent) (s : State) : (s.setGlobal e).argumentB = s.argumentB := rfl
@[simp] theorem State.resultCode_setGlobal (e : GlobalEvent) (s : State) : (s.setGlobal e).resultCode = s.resultCode := rfl
@[simp] theorem State.resultCommand_setGlobal (e : GlobalEvent) (s : State) : (s.setGlobal e).resultCommand = s.resultCommand := rfl
@[simp] theorem State.resetCause_setGlobal (e : GlobalEvent) (s : State) : (s.setGlobal e).resetCause = s.resetCause := rfl
@[simp] theorem State.statusPosition_setGlobal (e : GlobalEvent) (s : State) : (s.setGlobal e).statusPosition = s.statusPosition := rfl
@[simp] theorem State.statusHeld_setGlobal (e : GlobalEvent) (s : State) : (s.setGlobal e).statusHeld = s.statusHeld := rfl
@[simp] theorem State.prescale_setGlobal (e : GlobalEvent) (s : State) : (s.setGlobal e).prescale = s.prescale := rfl
@[simp] theorem State.tuLength_setGlobal (e : GlobalEvent) (s : State) : (s.setGlobal e).tuLength = s.tuLength := rfl
@[simp] theorem State.tuElapsed_setGlobal (e : GlobalEvent) (s : State) : (s.setGlobal e).tuElapsed = s.tuElapsed := rfl
@[simp] theorem State.readData_setGlobal (e : GlobalEvent) (s : State) : (s.setGlobal e).readData = s.readData := rfl
@[simp] theorem State.freeIndex_setGlobal (e : GlobalEvent) (s : State) : (s.setGlobal e).freeIndex = s.freeIndex := rfl
@[simp] theorem State.link_setGlobal (e : GlobalEvent) (s : State) (m : LinkId) : (s.setGlobal e).link m = s.link m := rfl
@[simp] theorem State.le_setGlobal (e : GlobalEvent) (s : State) (m : LinkId) : (s.setGlobal e).le m = s.le m := rfl
@[simp] theorem State.lu_setGlobal (e : GlobalEvent) (s : State) (m : LinkId) : (s.setGlobal e).lu m = s.lu m := rfl
@[simp] theorem State.desc_setGlobal (e : GlobalEvent) (s : State) (x : DescId) : (s.setGlobal e).desc x = s.desc x := rfl

/-! ## setResult -/

@[simp] theorem State.pending_setResult (c : BitVec 4) (r : ResultCode) (s : State) : (s.setResult c r).pending = s.pending := rfl
@[simp] theorem State.mem_setResult (c : BitVec 4) (r : ResultCode) (s : State) : (s.setResult c r).mem = s.mem := rfl
@[simp] theorem State.descs_setResult (c : BitVec 4) (r : ResultCode) (s : State) : (s.setResult c r).descs = s.descs := rfl
@[simp] theorem State.freeDescs_setResult (c : BitVec 4) (r : ResultCode) (s : State) : (s.setResult c r).freeDescs = s.freeDescs := rfl
@[simp] theorem State.freeBlocks_setResult (c : BitVec 4) (r : ResultCode) (s : State) : (s.setResult c r).freeBlocks = s.freeBlocks := rfl
@[simp] theorem State.watermark_setResult (c : BitVec 4) (r : ResultCode) (s : State) : (s.setResult c r).watermark = s.watermark := rfl
@[simp] theorem State.armed_setResult (c : BitVec 4) (r : ResultCode) (s : State) : (s.setResult c r).armed = s.armed := rfl
@[simp] theorem State.links_setResult (c : BitVec 4) (r : ResultCode) (s : State) : (s.setResult c r).links = s.links := rfl
@[simp] theorem State.rxd_setResult (c : BitVec 4) (r : ResultCode) (s : State) : (s.setResult c r).rxd = s.rxd := rfl
@[simp] theorem State.staging_setResult (c : BitVec 4) (r : ResultCode) (s : State) : (s.setResult c r).staging = s.staging := rfl
@[simp] theorem State.readPointer_setResult (c : BitVec 4) (r : ResultCode) (s : State) : (s.setResult c r).readPointer = s.readPointer := rfl
@[simp] theorem State.delivery_setResult (c : BitVec 4) (r : ResultCode) (s : State) : (s.setResult c r).delivery = s.delivery := rfl
@[simp] theorem State.completion_setResult (c : BitVec 4) (r : ResultCode) (s : State) : (s.setResult c r).completion = s.completion := rfl
@[simp] theorem State.globalEvents_setResult (c : BitVec 4) (r : ResultCode) (s : State) : (s.setResult c r).globalEvents = s.globalEvents := rfl
@[simp] theorem State.globalMask_setResult (c : BitVec 4) (r : ResultCode) (s : State) : (s.setResult c r).globalMask = s.globalMask := rfl
@[simp] theorem State.counterLink_setResult (c : BitVec 4) (r : ResultCode) (s : State) : (s.setResult c r).counterLink = s.counterLink := rfl
@[simp] theorem State.counterNumber_setResult (c : BitVec 4) (r : ResultCode) (s : State) : (s.setResult c r).counterNumber = s.counterNumber := rfl
@[simp] theorem State.readClears_setResult (c : BitVec 4) (r : ResultCode) (s : State) : (s.setResult c r).readClears = s.readClears := rfl
@[simp] theorem State.linkSelect_setResult (c : BitVec 4) (r : ResultCode) (s : State) : (s.setResult c r).linkSelect = s.linkSelect := rfl
@[simp] theorem State.argumentA_setResult (c : BitVec 4) (r : ResultCode) (s : State) : (s.setResult c r).argumentA = s.argumentA := rfl
@[simp] theorem State.argumentB_setResult (c : BitVec 4) (r : ResultCode) (s : State) : (s.setResult c r).argumentB = s.argumentB := rfl
@[simp] theorem State.resetCause_setResult (c : BitVec 4) (r : ResultCode) (s : State) : (s.setResult c r).resetCause = s.resetCause := rfl
@[simp] theorem State.statusPosition_setResult (c : BitVec 4) (r : ResultCode) (s : State) : (s.setResult c r).statusPosition = s.statusPosition := rfl
@[simp] theorem State.statusHeld_setResult (c : BitVec 4) (r : ResultCode) (s : State) : (s.setResult c r).statusHeld = s.statusHeld := rfl
@[simp] theorem State.prescale_setResult (c : BitVec 4) (r : ResultCode) (s : State) : (s.setResult c r).prescale = s.prescale := rfl
@[simp] theorem State.tuLength_setResult (c : BitVec 4) (r : ResultCode) (s : State) : (s.setResult c r).tuLength = s.tuLength := rfl
@[simp] theorem State.tuElapsed_setResult (c : BitVec 4) (r : ResultCode) (s : State) : (s.setResult c r).tuElapsed = s.tuElapsed := rfl
@[simp] theorem State.readData_setResult (c : BitVec 4) (r : ResultCode) (s : State) : (s.setResult c r).readData = s.readData := rfl
@[simp] theorem State.freeIndex_setResult (c : BitVec 4) (r : ResultCode) (s : State) : (s.setResult c r).freeIndex = s.freeIndex := rfl
@[simp] theorem State.link_setResult (c : BitVec 4) (r : ResultCode) (s : State) (m : LinkId) : (s.setResult c r).link m = s.link m := rfl
@[simp] theorem State.le_setResult (c : BitVec 4) (r : ResultCode) (s : State) (m : LinkId) : (s.setResult c r).le m = s.le m := rfl
@[simp] theorem State.lu_setResult (c : BitVec 4) (r : ResultCode) (s : State) (m : LinkId) : (s.setResult c r).lu m = s.lu m := rfl
@[simp] theorem State.desc_setResult (c : BitVec 4) (r : ResultCode) (s : State) (x : DescId) : (s.setResult c r).desc x = s.desc x := rfl

/-! ## driveData -/

@[simp] theorem State.pending_driveData (w : Word) (s : State) : (s.driveData w).pending = s.pending := rfl
@[simp] theorem State.mem_driveData (w : Word) (s : State) : (s.driveData w).mem = s.mem := rfl
@[simp] theorem State.descs_driveData (w : Word) (s : State) : (s.driveData w).descs = s.descs := rfl
@[simp] theorem State.freeDescs_driveData (w : Word) (s : State) : (s.driveData w).freeDescs = s.freeDescs := rfl
@[simp] theorem State.freeBlocks_driveData (w : Word) (s : State) : (s.driveData w).freeBlocks = s.freeBlocks := rfl
@[simp] theorem State.watermark_driveData (w : Word) (s : State) : (s.driveData w).watermark = s.watermark := rfl
@[simp] theorem State.armed_driveData (w : Word) (s : State) : (s.driveData w).armed = s.armed := rfl
@[simp] theorem State.links_driveData (w : Word) (s : State) : (s.driveData w).links = s.links := rfl
@[simp] theorem State.rxd_driveData (w : Word) (s : State) : (s.driveData w).rxd = s.rxd := rfl
@[simp] theorem State.staging_driveData (w : Word) (s : State) : (s.driveData w).staging = s.staging := rfl
@[simp] theorem State.readPointer_driveData (w : Word) (s : State) : (s.driveData w).readPointer = s.readPointer := rfl
@[simp] theorem State.delivery_driveData (w : Word) (s : State) : (s.driveData w).delivery = s.delivery := rfl
@[simp] theorem State.completion_driveData (w : Word) (s : State) : (s.driveData w).completion = s.completion := rfl
@[simp] theorem State.globalEvents_driveData (w : Word) (s : State) : (s.driveData w).globalEvents = s.globalEvents := rfl
@[simp] theorem State.globalMask_driveData (w : Word) (s : State) : (s.driveData w).globalMask = s.globalMask := rfl
@[simp] theorem State.counterLink_driveData (w : Word) (s : State) : (s.driveData w).counterLink = s.counterLink := rfl
@[simp] theorem State.counterNumber_driveData (w : Word) (s : State) : (s.driveData w).counterNumber = s.counterNumber := rfl
@[simp] theorem State.readClears_driveData (w : Word) (s : State) : (s.driveData w).readClears = s.readClears := rfl
@[simp] theorem State.linkSelect_driveData (w : Word) (s : State) : (s.driveData w).linkSelect = s.linkSelect := rfl
@[simp] theorem State.argumentA_driveData (w : Word) (s : State) : (s.driveData w).argumentA = s.argumentA := rfl
@[simp] theorem State.argumentB_driveData (w : Word) (s : State) : (s.driveData w).argumentB = s.argumentB := rfl
@[simp] theorem State.resultCode_driveData (w : Word) (s : State) : (s.driveData w).resultCode = s.resultCode := rfl
@[simp] theorem State.resultCommand_driveData (w : Word) (s : State) : (s.driveData w).resultCommand = s.resultCommand := rfl
@[simp] theorem State.resetCause_driveData (w : Word) (s : State) : (s.driveData w).resetCause = s.resetCause := rfl
@[simp] theorem State.statusPosition_driveData (w : Word) (s : State) : (s.driveData w).statusPosition = s.statusPosition := rfl
@[simp] theorem State.statusHeld_driveData (w : Word) (s : State) : (s.driveData w).statusHeld = s.statusHeld := rfl
@[simp] theorem State.prescale_driveData (w : Word) (s : State) : (s.driveData w).prescale = s.prescale := rfl
@[simp] theorem State.tuLength_driveData (w : Word) (s : State) : (s.driveData w).tuLength = s.tuLength := rfl
@[simp] theorem State.tuElapsed_driveData (w : Word) (s : State) : (s.driveData w).tuElapsed = s.tuElapsed := rfl
@[simp] theorem State.freeIndex_driveData (w : Word) (s : State) : (s.driveData w).freeIndex = s.freeIndex := rfl
@[simp] theorem State.link_driveData (w : Word) (s : State) (m : LinkId) : (s.driveData w).link m = s.link m := rfl
@[simp] theorem State.le_driveData (w : Word) (s : State) (m : LinkId) : (s.driveData w).le m = s.le m := rfl
@[simp] theorem State.lu_driveData (w : Word) (s : State) (m : LinkId) : (s.driveData w).lu m = s.lu m := rfl
@[simp] theorem State.desc_driveData (w : Word) (s : State) (x : DescId) : (s.driveData w).desc x = s.desc x := rfl

/-! ## releaseBus -/

@[simp] theorem State.pending_releaseBus (s : State) : s.releaseBus.pending = s.pending := rfl
@[simp] theorem State.mem_releaseBus (s : State) : s.releaseBus.mem = s.mem := rfl
@[simp] theorem State.descs_releaseBus (s : State) : s.releaseBus.descs = s.descs := rfl
@[simp] theorem State.freeDescs_releaseBus (s : State) : s.releaseBus.freeDescs = s.freeDescs := rfl
@[simp] theorem State.freeBlocks_releaseBus (s : State) : s.releaseBus.freeBlocks = s.freeBlocks := rfl
@[simp] theorem State.watermark_releaseBus (s : State) : s.releaseBus.watermark = s.watermark := rfl
@[simp] theorem State.armed_releaseBus (s : State) : s.releaseBus.armed = s.armed := rfl
@[simp] theorem State.links_releaseBus (s : State) : s.releaseBus.links = s.links := rfl
@[simp] theorem State.rxd_releaseBus (s : State) : s.releaseBus.rxd = s.rxd := rfl
@[simp] theorem State.staging_releaseBus (s : State) : s.releaseBus.staging = s.staging := rfl
@[simp] theorem State.readPointer_releaseBus (s : State) : s.releaseBus.readPointer = s.readPointer := rfl
@[simp] theorem State.delivery_releaseBus (s : State) : s.releaseBus.delivery = s.delivery := rfl
@[simp] theorem State.completion_releaseBus (s : State) : s.releaseBus.completion = s.completion := rfl
@[simp] theorem State.globalEvents_releaseBus (s : State) : s.releaseBus.globalEvents = s.globalEvents := rfl
@[simp] theorem State.globalMask_releaseBus (s : State) : s.releaseBus.globalMask = s.globalMask := rfl
@[simp] theorem State.counterLink_releaseBus (s : State) : s.releaseBus.counterLink = s.counterLink := rfl
@[simp] theorem State.counterNumber_releaseBus (s : State) : s.releaseBus.counterNumber = s.counterNumber := rfl
@[simp] theorem State.readClears_releaseBus (s : State) : s.releaseBus.readClears = s.readClears := rfl
@[simp] theorem State.linkSelect_releaseBus (s : State) : s.releaseBus.linkSelect = s.linkSelect := rfl
@[simp] theorem State.argumentA_releaseBus (s : State) : s.releaseBus.argumentA = s.argumentA := rfl
@[simp] theorem State.argumentB_releaseBus (s : State) : s.releaseBus.argumentB = s.argumentB := rfl
@[simp] theorem State.resultCode_releaseBus (s : State) : s.releaseBus.resultCode = s.resultCode := rfl
@[simp] theorem State.resultCommand_releaseBus (s : State) : s.releaseBus.resultCommand = s.resultCommand := rfl
@[simp] theorem State.resetCause_releaseBus (s : State) : s.releaseBus.resetCause = s.resetCause := rfl
@[simp] theorem State.statusPosition_releaseBus (s : State) : s.releaseBus.statusPosition = s.statusPosition := rfl
@[simp] theorem State.statusHeld_releaseBus (s : State) : s.releaseBus.statusHeld = s.statusHeld := rfl
@[simp] theorem State.prescale_releaseBus (s : State) : s.releaseBus.prescale = s.prescale := rfl
@[simp] theorem State.tuLength_releaseBus (s : State) : s.releaseBus.tuLength = s.tuLength := rfl
@[simp] theorem State.tuElapsed_releaseBus (s : State) : s.releaseBus.tuElapsed = s.tuElapsed := rfl
@[simp] theorem State.freeIndex_releaseBus (s : State) : s.releaseBus.freeIndex = s.freeIndex := rfl
@[simp] theorem State.link_releaseBus (s : State) (m : LinkId) : s.releaseBus.link m = s.link m := rfl
@[simp] theorem State.le_releaseBus (s : State) (m : LinkId) : s.releaseBus.le m = s.le m := rfl
@[simp] theorem State.lu_releaseBus (s : State) (m : LinkId) : s.releaseBus.lu m = s.lu m := rfl
@[simp] theorem State.desc_releaseBus (s : State) (x : DescId) : s.releaseBus.desc x = s.desc x := rfl

/-! ## modDesc -/

@[simp] theorem State.pending_modDesc (d : DescId) (f : Descriptor → Descriptor) (s : State) : (s.modDesc d f).pending = s.pending := by unfold State.modDesc; split <;> rfl
@[simp] theorem State.mem_modDesc (d : DescId) (f : Descriptor → Descriptor) (s : State) : (s.modDesc d f).mem = s.mem := by unfold State.modDesc; split <;> rfl
@[simp] theorem State.freeDescs_modDesc (d : DescId) (f : Descriptor → Descriptor) (s : State) : (s.modDesc d f).freeDescs = s.freeDescs := by unfold State.modDesc; split <;> rfl
@[simp] theorem State.freeBlocks_modDesc (d : DescId) (f : Descriptor → Descriptor) (s : State) : (s.modDesc d f).freeBlocks = s.freeBlocks := by unfold State.modDesc; split <;> rfl
@[simp] theorem State.watermark_modDesc (d : DescId) (f : Descriptor → Descriptor) (s : State) : (s.modDesc d f).watermark = s.watermark := by unfold State.modDesc; split <;> rfl
@[simp] theorem State.armed_modDesc (d : DescId) (f : Descriptor → Descriptor) (s : State) : (s.modDesc d f).armed = s.armed := by unfold State.modDesc; split <;> rfl
@[simp] theorem State.links_modDesc (d : DescId) (f : Descriptor → Descriptor) (s : State) : (s.modDesc d f).links = s.links := by unfold State.modDesc; split <;> rfl
@[simp] theorem State.rxd_modDesc (d : DescId) (f : Descriptor → Descriptor) (s : State) : (s.modDesc d f).rxd = s.rxd := by unfold State.modDesc; split <;> rfl
@[simp] theorem State.staging_modDesc (d : DescId) (f : Descriptor → Descriptor) (s : State) : (s.modDesc d f).staging = s.staging := by unfold State.modDesc; split <;> rfl
@[simp] theorem State.readPointer_modDesc (d : DescId) (f : Descriptor → Descriptor) (s : State) : (s.modDesc d f).readPointer = s.readPointer := by unfold State.modDesc; split <;> rfl
@[simp] theorem State.delivery_modDesc (d : DescId) (f : Descriptor → Descriptor) (s : State) : (s.modDesc d f).delivery = s.delivery := by unfold State.modDesc; split <;> rfl
@[simp] theorem State.completion_modDesc (d : DescId) (f : Descriptor → Descriptor) (s : State) : (s.modDesc d f).completion = s.completion := by unfold State.modDesc; split <;> rfl
@[simp] theorem State.globalEvents_modDesc (d : DescId) (f : Descriptor → Descriptor) (s : State) : (s.modDesc d f).globalEvents = s.globalEvents := by unfold State.modDesc; split <;> rfl
@[simp] theorem State.globalMask_modDesc (d : DescId) (f : Descriptor → Descriptor) (s : State) : (s.modDesc d f).globalMask = s.globalMask := by unfold State.modDesc; split <;> rfl
@[simp] theorem State.counterLink_modDesc (d : DescId) (f : Descriptor → Descriptor) (s : State) : (s.modDesc d f).counterLink = s.counterLink := by unfold State.modDesc; split <;> rfl
@[simp] theorem State.counterNumber_modDesc (d : DescId) (f : Descriptor → Descriptor) (s : State) : (s.modDesc d f).counterNumber = s.counterNumber := by unfold State.modDesc; split <;> rfl
@[simp] theorem State.readClears_modDesc (d : DescId) (f : Descriptor → Descriptor) (s : State) : (s.modDesc d f).readClears = s.readClears := by unfold State.modDesc; split <;> rfl
@[simp] theorem State.linkSelect_modDesc (d : DescId) (f : Descriptor → Descriptor) (s : State) : (s.modDesc d f).linkSelect = s.linkSelect := by unfold State.modDesc; split <;> rfl
@[simp] theorem State.argumentA_modDesc (d : DescId) (f : Descriptor → Descriptor) (s : State) : (s.modDesc d f).argumentA = s.argumentA := by unfold State.modDesc; split <;> rfl
@[simp] theorem State.argumentB_modDesc (d : DescId) (f : Descriptor → Descriptor) (s : State) : (s.modDesc d f).argumentB = s.argumentB := by unfold State.modDesc; split <;> rfl
@[simp] theorem State.resultCode_modDesc (d : DescId) (f : Descriptor → Descriptor) (s : State) : (s.modDesc d f).resultCode = s.resultCode := by unfold State.modDesc; split <;> rfl
@[simp] theorem State.resultCommand_modDesc (d : DescId) (f : Descriptor → Descriptor) (s : State) : (s.modDesc d f).resultCommand = s.resultCommand := by unfold State.modDesc; split <;> rfl
@[simp] theorem State.resetCause_modDesc (d : DescId) (f : Descriptor → Descriptor) (s : State) : (s.modDesc d f).resetCause = s.resetCause := by unfold State.modDesc; split <;> rfl
@[simp] theorem State.statusPosition_modDesc (d : DescId) (f : Descriptor → Descriptor) (s : State) : (s.modDesc d f).statusPosition = s.statusPosition := by unfold State.modDesc; split <;> rfl
@[simp] theorem State.statusHeld_modDesc (d : DescId) (f : Descriptor → Descriptor) (s : State) : (s.modDesc d f).statusHeld = s.statusHeld := by unfold State.modDesc; split <;> rfl
@[simp] theorem State.prescale_modDesc (d : DescId) (f : Descriptor → Descriptor) (s : State) : (s.modDesc d f).prescale = s.prescale := by unfold State.modDesc; split <;> rfl
@[simp] theorem State.tuLength_modDesc (d : DescId) (f : Descriptor → Descriptor) (s : State) : (s.modDesc d f).tuLength = s.tuLength := by unfold State.modDesc; split <;> rfl
@[simp] theorem State.tuElapsed_modDesc (d : DescId) (f : Descriptor → Descriptor) (s : State) : (s.modDesc d f).tuElapsed = s.tuElapsed := by unfold State.modDesc; split <;> rfl
@[simp] theorem State.readData_modDesc (d : DescId) (f : Descriptor → Descriptor) (s : State) : (s.modDesc d f).readData = s.readData := by unfold State.modDesc; split <;> rfl
@[simp] theorem State.freeIndex_modDesc (d : DescId) (f : Descriptor → Descriptor) (s : State) : (s.modDesc d f).freeIndex = s.freeIndex := by unfold State.modDesc; split <;> rfl
@[simp] theorem State.link_modDesc (d : DescId) (f : Descriptor → Descriptor) (s : State) (m : LinkId) : (s.modDesc d f).link m = s.link m := by unfold State.modDesc; split <;> rfl
@[simp] theorem State.le_modDesc (d : DescId) (f : Descriptor → Descriptor) (s : State) (m : LinkId) : (s.modDesc d f).le m = s.le m := by unfold State.modDesc; split <;> rfl
@[simp] theorem State.lu_modDesc (d : DescId) (f : Descriptor → Descriptor) (s : State) (m : LinkId) : (s.modDesc d f).lu m = s.lu m := by unfold State.modDesc; split <;> rfl

/-! ## count -/

@[simp] theorem State.pending_count (n : LinkId) (c : Counter) (s : State) : (s.count n c).pending = s.pending := by unfold State.count; split <;> rfl
@[simp] theorem State.mem_count (n : LinkId) (c : Counter) (s : State) : (s.count n c).mem = s.mem := by unfold State.count; split <;> rfl
@[simp] theorem State.descs_count (n : LinkId) (c : Counter) (s : State) : (s.count n c).descs = s.descs := by unfold State.count; split <;> rfl
@[simp] theorem State.freeDescs_count (n : LinkId) (c : Counter) (s : State) : (s.count n c).freeDescs = s.freeDescs := by unfold State.count; split <;> rfl
@[simp] theorem State.freeBlocks_count (n : LinkId) (c : Counter) (s : State) : (s.count n c).freeBlocks = s.freeBlocks := by unfold State.count; split <;> rfl
@[simp] theorem State.watermark_count (n : LinkId) (c : Counter) (s : State) : (s.count n c).watermark = s.watermark := by unfold State.count; split <;> rfl
@[simp] theorem State.armed_count (n : LinkId) (c : Counter) (s : State) : (s.count n c).armed = s.armed := by unfold State.count; split <;> rfl
@[simp] theorem State.rxd_count (n : LinkId) (c : Counter) (s : State) : (s.count n c).rxd = s.rxd := by unfold State.count; split <;> rfl
@[simp] theorem State.staging_count (n : LinkId) (c : Counter) (s : State) : (s.count n c).staging = s.staging := by unfold State.count; split <;> rfl
@[simp] theorem State.readPointer_count (n : LinkId) (c : Counter) (s : State) : (s.count n c).readPointer = s.readPointer := by unfold State.count; split <;> rfl
@[simp] theorem State.delivery_count (n : LinkId) (c : Counter) (s : State) : (s.count n c).delivery = s.delivery := by unfold State.count; split <;> rfl
@[simp] theorem State.completion_count (n : LinkId) (c : Counter) (s : State) : (s.count n c).completion = s.completion := by unfold State.count; split <;> rfl
@[simp] theorem State.globalMask_count (n : LinkId) (c : Counter) (s : State) : (s.count n c).globalMask = s.globalMask := by unfold State.count; split <;> rfl
@[simp] theorem State.counterLink_count (n : LinkId) (c : Counter) (s : State) : (s.count n c).counterLink = s.counterLink := by unfold State.count; split <;> rfl
@[simp] theorem State.counterNumber_count (n : LinkId) (c : Counter) (s : State) : (s.count n c).counterNumber = s.counterNumber := by unfold State.count; split <;> rfl
@[simp] theorem State.readClears_count (n : LinkId) (c : Counter) (s : State) : (s.count n c).readClears = s.readClears := by unfold State.count; split <;> rfl
@[simp] theorem State.linkSelect_count (n : LinkId) (c : Counter) (s : State) : (s.count n c).linkSelect = s.linkSelect := by unfold State.count; split <;> rfl
@[simp] theorem State.argumentA_count (n : LinkId) (c : Counter) (s : State) : (s.count n c).argumentA = s.argumentA := by unfold State.count; split <;> rfl
@[simp] theorem State.argumentB_count (n : LinkId) (c : Counter) (s : State) : (s.count n c).argumentB = s.argumentB := by unfold State.count; split <;> rfl
@[simp] theorem State.resultCode_count (n : LinkId) (c : Counter) (s : State) : (s.count n c).resultCode = s.resultCode := by unfold State.count; split <;> rfl
@[simp] theorem State.resultCommand_count (n : LinkId) (c : Counter) (s : State) : (s.count n c).resultCommand = s.resultCommand := by unfold State.count; split <;> rfl
@[simp] theorem State.resetCause_count (n : LinkId) (c : Counter) (s : State) : (s.count n c).resetCause = s.resetCause := by unfold State.count; split <;> rfl
@[simp] theorem State.statusPosition_count (n : LinkId) (c : Counter) (s : State) : (s.count n c).statusPosition = s.statusPosition := by unfold State.count; split <;> rfl
@[simp] theorem State.statusHeld_count (n : LinkId) (c : Counter) (s : State) : (s.count n c).statusHeld = s.statusHeld := by unfold State.count; split <;> rfl
@[simp] theorem State.prescale_count (n : LinkId) (c : Counter) (s : State) : (s.count n c).prescale = s.prescale := by unfold State.count; split <;> rfl
@[simp] theorem State.tuLength_count (n : LinkId) (c : Counter) (s : State) : (s.count n c).tuLength = s.tuLength := by unfold State.count; split <;> rfl
@[simp] theorem State.tuElapsed_count (n : LinkId) (c : Counter) (s : State) : (s.count n c).tuElapsed = s.tuElapsed := by unfold State.count; split <;> rfl
@[simp] theorem State.readData_count (n : LinkId) (c : Counter) (s : State) : (s.count n c).readData = s.readData := by unfold State.count; split <;> rfl
@[simp] theorem State.freeIndex_count (n : LinkId) (c : Counter) (s : State) : (s.count n c).freeIndex = s.freeIndex := by unfold State.count; split <;> rfl
@[simp] theorem State.desc_count (n : LinkId) (c : Counter) (s : State) (x : DescId) : (s.count n c).desc x = s.desc x := by unfold State.count; split <;> rfl

/-! ## afterClaim -/

@[simp] theorem State.pending_afterClaim (s : State) : s.afterClaim.pending = s.pending := by unfold State.afterClaim; split <;> rfl
@[simp] theorem State.mem_afterClaim (s : State) : s.afterClaim.mem = s.mem := by unfold State.afterClaim; split <;> rfl
@[simp] theorem State.descs_afterClaim (s : State) : s.afterClaim.descs = s.descs := by unfold State.afterClaim; split <;> rfl
@[simp] theorem State.freeDescs_afterClaim (s : State) : s.afterClaim.freeDescs = s.freeDescs := by unfold State.afterClaim; split <;> rfl
@[simp] theorem State.freeBlocks_afterClaim (s : State) : s.afterClaim.freeBlocks = s.freeBlocks := by unfold State.afterClaim; split <;> rfl
@[simp] theorem State.watermark_afterClaim (s : State) : s.afterClaim.watermark = s.watermark := by unfold State.afterClaim; split <;> rfl
@[simp] theorem State.links_afterClaim (s : State) : s.afterClaim.links = s.links := by unfold State.afterClaim; split <;> rfl
@[simp] theorem State.rxd_afterClaim (s : State) : s.afterClaim.rxd = s.rxd := by unfold State.afterClaim; split <;> rfl
@[simp] theorem State.staging_afterClaim (s : State) : s.afterClaim.staging = s.staging := by unfold State.afterClaim; split <;> rfl
@[simp] theorem State.readPointer_afterClaim (s : State) : s.afterClaim.readPointer = s.readPointer := by unfold State.afterClaim; split <;> rfl
@[simp] theorem State.delivery_afterClaim (s : State) : s.afterClaim.delivery = s.delivery := by unfold State.afterClaim; split <;> rfl
@[simp] theorem State.completion_afterClaim (s : State) : s.afterClaim.completion = s.completion := by unfold State.afterClaim; split <;> rfl
@[simp] theorem State.globalMask_afterClaim (s : State) : s.afterClaim.globalMask = s.globalMask := by unfold State.afterClaim; split <;> rfl
@[simp] theorem State.counterLink_afterClaim (s : State) : s.afterClaim.counterLink = s.counterLink := by unfold State.afterClaim; split <;> rfl
@[simp] theorem State.counterNumber_afterClaim (s : State) : s.afterClaim.counterNumber = s.counterNumber := by unfold State.afterClaim; split <;> rfl
@[simp] theorem State.readClears_afterClaim (s : State) : s.afterClaim.readClears = s.readClears := by unfold State.afterClaim; split <;> rfl
@[simp] theorem State.linkSelect_afterClaim (s : State) : s.afterClaim.linkSelect = s.linkSelect := by unfold State.afterClaim; split <;> rfl
@[simp] theorem State.argumentA_afterClaim (s : State) : s.afterClaim.argumentA = s.argumentA := by unfold State.afterClaim; split <;> rfl
@[simp] theorem State.argumentB_afterClaim (s : State) : s.afterClaim.argumentB = s.argumentB := by unfold State.afterClaim; split <;> rfl
@[simp] theorem State.resultCode_afterClaim (s : State) : s.afterClaim.resultCode = s.resultCode := by unfold State.afterClaim; split <;> rfl
@[simp] theorem State.resultCommand_afterClaim (s : State) : s.afterClaim.resultCommand = s.resultCommand := by unfold State.afterClaim; split <;> rfl
@[simp] theorem State.resetCause_afterClaim (s : State) : s.afterClaim.resetCause = s.resetCause := by unfold State.afterClaim; split <;> rfl
@[simp] theorem State.statusPosition_afterClaim (s : State) : s.afterClaim.statusPosition = s.statusPosition := by unfold State.afterClaim; split <;> rfl
@[simp] theorem State.statusHeld_afterClaim (s : State) : s.afterClaim.statusHeld = s.statusHeld := by unfold State.afterClaim; split <;> rfl
@[simp] theorem State.prescale_afterClaim (s : State) : s.afterClaim.prescale = s.prescale := by unfold State.afterClaim; split <;> rfl
@[simp] theorem State.tuLength_afterClaim (s : State) : s.afterClaim.tuLength = s.tuLength := by unfold State.afterClaim; split <;> rfl
@[simp] theorem State.tuElapsed_afterClaim (s : State) : s.afterClaim.tuElapsed = s.tuElapsed := by unfold State.afterClaim; split <;> rfl
@[simp] theorem State.readData_afterClaim (s : State) : s.afterClaim.readData = s.readData := by unfold State.afterClaim; split <;> rfl
@[simp] theorem State.freeIndex_afterClaim (s : State) : s.afterClaim.freeIndex = s.freeIndex := by unfold State.afterClaim; split <;> rfl
@[simp] theorem State.link_afterClaim (s : State) (m : LinkId) : s.afterClaim.link m = s.link m := by unfold State.afterClaim; split <;> rfl
@[simp] theorem State.le_afterClaim (s : State) (m : LinkId) : s.afterClaim.le m = s.le m := by unfold State.afterClaim; split <;> rfl
@[simp] theorem State.lu_afterClaim (s : State) (m : LinkId) : s.afterClaim.lu m = s.lu m := by unfold State.afterClaim; split <;> rfl
@[simp] theorem State.desc_afterClaim (s : State) (x : DescId) : s.afterClaim.desc x = s.desc x := by unfold State.afterClaim; split <;> rfl

/-! ## rearm -/

@[simp] theorem State.pending_rearm (s : State) : s.rearm.pending = s.pending := by unfold State.rearm; split <;> rfl
@[simp] theorem State.mem_rearm (s : State) : s.rearm.mem = s.mem := by unfold State.rearm; split <;> rfl
@[simp] theorem State.descs_rearm (s : State) : s.rearm.descs = s.descs := by unfold State.rearm; split <;> rfl
@[simp] theorem State.freeDescs_rearm (s : State) : s.rearm.freeDescs = s.freeDescs := by unfold State.rearm; split <;> rfl
@[simp] theorem State.freeBlocks_rearm (s : State) : s.rearm.freeBlocks = s.freeBlocks := by unfold State.rearm; split <;> rfl
@[simp] theorem State.watermark_rearm (s : State) : s.rearm.watermark = s.watermark := by unfold State.rearm; split <;> rfl
@[simp] theorem State.links_rearm (s : State) : s.rearm.links = s.links := by unfold State.rearm; split <;> rfl
@[simp] theorem State.rxd_rearm (s : State) : s.rearm.rxd = s.rxd := by unfold State.rearm; split <;> rfl
@[simp] theorem State.staging_rearm (s : State) : s.rearm.staging = s.staging := by unfold State.rearm; split <;> rfl
@[simp] theorem State.readPointer_rearm (s : State) : s.rearm.readPointer = s.readPointer := by unfold State.rearm; split <;> rfl
@[simp] theorem State.delivery_rearm (s : State) : s.rearm.delivery = s.delivery := by unfold State.rearm; split <;> rfl
@[simp] theorem State.completion_rearm (s : State) : s.rearm.completion = s.completion := by unfold State.rearm; split <;> rfl
@[simp] theorem State.globalEvents_rearm (s : State) : s.rearm.globalEvents = s.globalEvents := by unfold State.rearm; split <;> rfl
@[simp] theorem State.globalMask_rearm (s : State) : s.rearm.globalMask = s.globalMask := by unfold State.rearm; split <;> rfl
@[simp] theorem State.counterLink_rearm (s : State) : s.rearm.counterLink = s.counterLink := by unfold State.rearm; split <;> rfl
@[simp] theorem State.counterNumber_rearm (s : State) : s.rearm.counterNumber = s.counterNumber := by unfold State.rearm; split <;> rfl
@[simp] theorem State.readClears_rearm (s : State) : s.rearm.readClears = s.readClears := by unfold State.rearm; split <;> rfl
@[simp] theorem State.linkSelect_rearm (s : State) : s.rearm.linkSelect = s.linkSelect := by unfold State.rearm; split <;> rfl
@[simp] theorem State.argumentA_rearm (s : State) : s.rearm.argumentA = s.argumentA := by unfold State.rearm; split <;> rfl
@[simp] theorem State.argumentB_rearm (s : State) : s.rearm.argumentB = s.argumentB := by unfold State.rearm; split <;> rfl
@[simp] theorem State.resultCode_rearm (s : State) : s.rearm.resultCode = s.resultCode := by unfold State.rearm; split <;> rfl
@[simp] theorem State.resultCommand_rearm (s : State) : s.rearm.resultCommand = s.resultCommand := by unfold State.rearm; split <;> rfl
@[simp] theorem State.resetCause_rearm (s : State) : s.rearm.resetCause = s.resetCause := by unfold State.rearm; split <;> rfl
@[simp] theorem State.statusPosition_rearm (s : State) : s.rearm.statusPosition = s.statusPosition := by unfold State.rearm; split <;> rfl
@[simp] theorem State.statusHeld_rearm (s : State) : s.rearm.statusHeld = s.statusHeld := by unfold State.rearm; split <;> rfl
@[simp] theorem State.prescale_rearm (s : State) : s.rearm.prescale = s.prescale := by unfold State.rearm; split <;> rfl
@[simp] theorem State.tuLength_rearm (s : State) : s.rearm.tuLength = s.tuLength := by unfold State.rearm; split <;> rfl
@[simp] theorem State.tuElapsed_rearm (s : State) : s.rearm.tuElapsed = s.tuElapsed := by unfold State.rearm; split <;> rfl
@[simp] theorem State.readData_rearm (s : State) : s.rearm.readData = s.readData := by unfold State.rearm; split <;> rfl
@[simp] theorem State.freeIndex_rearm (s : State) : s.rearm.freeIndex = s.freeIndex := by unfold State.rearm; split <;> rfl
@[simp] theorem State.link_rearm (s : State) (m : LinkId) : s.rearm.link m = s.link m := by unfold State.rearm; split <;> rfl
@[simp] theorem State.le_rearm (s : State) (m : LinkId) : s.rearm.le m = s.le m := by unfold State.rearm; split <;> rfl
@[simp] theorem State.lu_rearm (s : State) (m : LinkId) : s.rearm.lu m = s.lu m := by unfold State.rearm; split <;> rfl
@[simp] theorem State.desc_rearm (s : State) (x : DescId) : s.rearm.desc x = s.desc x := by unfold State.rearm; split <;> rfl

/-! ## releaseToFree -/

@[simp] theorem State.pending_releaseToFree (d : DescId) (s : State) : (s.releaseToFree d).pending = s.pending := by unfold State.releaseToFree; split <;> simp
@[simp] theorem State.mem_releaseToFree (d : DescId) (s : State) : (s.releaseToFree d).mem = s.mem := by unfold State.releaseToFree; split <;> simp
@[simp] theorem State.watermark_releaseToFree (d : DescId) (s : State) : (s.releaseToFree d).watermark = s.watermark := by unfold State.releaseToFree; split <;> simp
@[simp] theorem State.rxd_releaseToFree (d : DescId) (s : State) : (s.releaseToFree d).rxd = s.rxd := by unfold State.releaseToFree; split <;> simp
@[simp] theorem State.staging_releaseToFree (d : DescId) (s : State) : (s.releaseToFree d).staging = s.staging := by unfold State.releaseToFree; split <;> simp
@[simp] theorem State.readPointer_releaseToFree (d : DescId) (s : State) : (s.releaseToFree d).readPointer = s.readPointer := by unfold State.releaseToFree; split <;> simp
@[simp] theorem State.delivery_releaseToFree (d : DescId) (s : State) : (s.releaseToFree d).delivery = s.delivery := by unfold State.releaseToFree; split <;> simp
@[simp] theorem State.completion_releaseToFree (d : DescId) (s : State) : (s.releaseToFree d).completion = s.completion := by unfold State.releaseToFree; split <;> simp
@[simp] theorem State.globalEvents_releaseToFree (d : DescId) (s : State) : (s.releaseToFree d).globalEvents = s.globalEvents := by unfold State.releaseToFree; split <;> simp
@[simp] theorem State.globalMask_releaseToFree (d : DescId) (s : State) : (s.releaseToFree d).globalMask = s.globalMask := by unfold State.releaseToFree; split <;> simp
@[simp] theorem State.counterLink_releaseToFree (d : DescId) (s : State) : (s.releaseToFree d).counterLink = s.counterLink := by unfold State.releaseToFree; split <;> simp
@[simp] theorem State.counterNumber_releaseToFree (d : DescId) (s : State) : (s.releaseToFree d).counterNumber = s.counterNumber := by unfold State.releaseToFree; split <;> simp
@[simp] theorem State.readClears_releaseToFree (d : DescId) (s : State) : (s.releaseToFree d).readClears = s.readClears := by unfold State.releaseToFree; split <;> simp
@[simp] theorem State.linkSelect_releaseToFree (d : DescId) (s : State) : (s.releaseToFree d).linkSelect = s.linkSelect := by unfold State.releaseToFree; split <;> simp
@[simp] theorem State.argumentA_releaseToFree (d : DescId) (s : State) : (s.releaseToFree d).argumentA = s.argumentA := by unfold State.releaseToFree; split <;> simp
@[simp] theorem State.argumentB_releaseToFree (d : DescId) (s : State) : (s.releaseToFree d).argumentB = s.argumentB := by unfold State.releaseToFree; split <;> simp
@[simp] theorem State.resultCode_releaseToFree (d : DescId) (s : State) : (s.releaseToFree d).resultCode = s.resultCode := by unfold State.releaseToFree; split <;> simp
@[simp] theorem State.resultCommand_releaseToFree (d : DescId) (s : State) : (s.releaseToFree d).resultCommand = s.resultCommand := by unfold State.releaseToFree; split <;> simp
@[simp] theorem State.resetCause_releaseToFree (d : DescId) (s : State) : (s.releaseToFree d).resetCause = s.resetCause := by unfold State.releaseToFree; split <;> simp
@[simp] theorem State.statusPosition_releaseToFree (d : DescId) (s : State) : (s.releaseToFree d).statusPosition = s.statusPosition := by unfold State.releaseToFree; split <;> simp
@[simp] theorem State.statusHeld_releaseToFree (d : DescId) (s : State) : (s.releaseToFree d).statusHeld = s.statusHeld := by unfold State.releaseToFree; split <;> simp
@[simp] theorem State.prescale_releaseToFree (d : DescId) (s : State) : (s.releaseToFree d).prescale = s.prescale := by unfold State.releaseToFree; split <;> simp
@[simp] theorem State.tuLength_releaseToFree (d : DescId) (s : State) : (s.releaseToFree d).tuLength = s.tuLength := by unfold State.releaseToFree; split <;> simp
@[simp] theorem State.tuElapsed_releaseToFree (d : DescId) (s : State) : (s.releaseToFree d).tuElapsed = s.tuElapsed := by unfold State.releaseToFree; split <;> simp
@[simp] theorem State.readData_releaseToFree (d : DescId) (s : State) : (s.releaseToFree d).readData = s.readData := by unfold State.releaseToFree; split <;> simp
@[simp] theorem State.freeIndex_releaseToFree (d : DescId) (s : State) : (s.releaseToFree d).freeIndex = s.freeIndex := by unfold State.releaseToFree; split <;> simp

/-! ## releaseBlocks -/

@[simp] theorem State.pending_releaseBlocks (d : DescId) (s : State) : (s.releaseBlocks d).pending = s.pending := by unfold State.releaseBlocks; split <;> simp
@[simp] theorem State.mem_releaseBlocks (d : DescId) (s : State) : (s.releaseBlocks d).mem = s.mem := by unfold State.releaseBlocks; split <;> simp
@[simp] theorem State.freeDescs_releaseBlocks (d : DescId) (s : State) : (s.releaseBlocks d).freeDescs = s.freeDescs := by unfold State.releaseBlocks; split <;> simp
@[simp] theorem State.watermark_releaseBlocks (d : DescId) (s : State) : (s.releaseBlocks d).watermark = s.watermark := by unfold State.releaseBlocks; split <;> simp
@[simp] theorem State.rxd_releaseBlocks (d : DescId) (s : State) : (s.releaseBlocks d).rxd = s.rxd := by unfold State.releaseBlocks; split <;> simp
@[simp] theorem State.staging_releaseBlocks (d : DescId) (s : State) : (s.releaseBlocks d).staging = s.staging := by unfold State.releaseBlocks; split <;> simp
@[simp] theorem State.readPointer_releaseBlocks (d : DescId) (s : State) : (s.releaseBlocks d).readPointer = s.readPointer := by unfold State.releaseBlocks; split <;> simp
@[simp] theorem State.delivery_releaseBlocks (d : DescId) (s : State) : (s.releaseBlocks d).delivery = s.delivery := by unfold State.releaseBlocks; split <;> simp
@[simp] theorem State.completion_releaseBlocks (d : DescId) (s : State) : (s.releaseBlocks d).completion = s.completion := by unfold State.releaseBlocks; split <;> simp
@[simp] theorem State.globalEvents_releaseBlocks (d : DescId) (s : State) : (s.releaseBlocks d).globalEvents = s.globalEvents := by unfold State.releaseBlocks; split <;> simp
@[simp] theorem State.globalMask_releaseBlocks (d : DescId) (s : State) : (s.releaseBlocks d).globalMask = s.globalMask := by unfold State.releaseBlocks; split <;> simp
@[simp] theorem State.counterLink_releaseBlocks (d : DescId) (s : State) : (s.releaseBlocks d).counterLink = s.counterLink := by unfold State.releaseBlocks; split <;> simp
@[simp] theorem State.counterNumber_releaseBlocks (d : DescId) (s : State) : (s.releaseBlocks d).counterNumber = s.counterNumber := by unfold State.releaseBlocks; split <;> simp
@[simp] theorem State.readClears_releaseBlocks (d : DescId) (s : State) : (s.releaseBlocks d).readClears = s.readClears := by unfold State.releaseBlocks; split <;> simp
@[simp] theorem State.linkSelect_releaseBlocks (d : DescId) (s : State) : (s.releaseBlocks d).linkSelect = s.linkSelect := by unfold State.releaseBlocks; split <;> simp
@[simp] theorem State.argumentA_releaseBlocks (d : DescId) (s : State) : (s.releaseBlocks d).argumentA = s.argumentA := by unfold State.releaseBlocks; split <;> simp
@[simp] theorem State.argumentB_releaseBlocks (d : DescId) (s : State) : (s.releaseBlocks d).argumentB = s.argumentB := by unfold State.releaseBlocks; split <;> simp
@[simp] theorem State.resultCode_releaseBlocks (d : DescId) (s : State) : (s.releaseBlocks d).resultCode = s.resultCode := by unfold State.releaseBlocks; split <;> simp
@[simp] theorem State.resultCommand_releaseBlocks (d : DescId) (s : State) : (s.releaseBlocks d).resultCommand = s.resultCommand := by unfold State.releaseBlocks; split <;> simp
@[simp] theorem State.resetCause_releaseBlocks (d : DescId) (s : State) : (s.releaseBlocks d).resetCause = s.resetCause := by unfold State.releaseBlocks; split <;> simp
@[simp] theorem State.statusPosition_releaseBlocks (d : DescId) (s : State) : (s.releaseBlocks d).statusPosition = s.statusPosition := by unfold State.releaseBlocks; split <;> simp
@[simp] theorem State.statusHeld_releaseBlocks (d : DescId) (s : State) : (s.releaseBlocks d).statusHeld = s.statusHeld := by unfold State.releaseBlocks; split <;> simp
@[simp] theorem State.prescale_releaseBlocks (d : DescId) (s : State) : (s.releaseBlocks d).prescale = s.prescale := by unfold State.releaseBlocks; split <;> simp
@[simp] theorem State.tuLength_releaseBlocks (d : DescId) (s : State) : (s.releaseBlocks d).tuLength = s.tuLength := by unfold State.releaseBlocks; split <;> simp
@[simp] theorem State.tuElapsed_releaseBlocks (d : DescId) (s : State) : (s.releaseBlocks d).tuElapsed = s.tuElapsed := by unfold State.releaseBlocks; split <;> simp
@[simp] theorem State.readData_releaseBlocks (d : DescId) (s : State) : (s.releaseBlocks d).readData = s.readData := by unfold State.releaseBlocks; split <;> simp
@[simp] theorem State.freeIndex_releaseBlocks (d : DescId) (s : State) : (s.releaseBlocks d).freeIndex = s.freeIndex := by unfold State.releaseBlocks; split <;> simp

/-! ## appendCompletion -/

@[simp] theorem State.pending_appendCompletion (d : DescId) (s : State) : (s.appendCompletion d).pending = s.pending := by unfold State.appendCompletion; split <;> rfl
@[simp] theorem State.mem_appendCompletion (d : DescId) (s : State) : (s.appendCompletion d).mem = s.mem := by unfold State.appendCompletion; split <;> rfl
@[simp] theorem State.freeDescs_appendCompletion (d : DescId) (s : State) : (s.appendCompletion d).freeDescs = s.freeDescs := by unfold State.appendCompletion; split <;> rfl
@[simp] theorem State.freeBlocks_appendCompletion (d : DescId) (s : State) : (s.appendCompletion d).freeBlocks = s.freeBlocks := by unfold State.appendCompletion; split <;> rfl
@[simp] theorem State.watermark_appendCompletion (d : DescId) (s : State) : (s.appendCompletion d).watermark = s.watermark := by unfold State.appendCompletion; split <;> rfl
@[simp] theorem State.armed_appendCompletion (d : DescId) (s : State) : (s.appendCompletion d).armed = s.armed := by unfold State.appendCompletion; split <;> rfl
@[simp] theorem State.links_appendCompletion (d : DescId) (s : State) : (s.appendCompletion d).links = s.links := by unfold State.appendCompletion; split <;> rfl
@[simp] theorem State.rxd_appendCompletion (d : DescId) (s : State) : (s.appendCompletion d).rxd = s.rxd := by unfold State.appendCompletion; split <;> rfl
@[simp] theorem State.staging_appendCompletion (d : DescId) (s : State) : (s.appendCompletion d).staging = s.staging := by unfold State.appendCompletion; split <;> rfl
@[simp] theorem State.readPointer_appendCompletion (d : DescId) (s : State) : (s.appendCompletion d).readPointer = s.readPointer := by unfold State.appendCompletion; split <;> rfl
@[simp] theorem State.delivery_appendCompletion (d : DescId) (s : State) : (s.appendCompletion d).delivery = s.delivery := by unfold State.appendCompletion; split <;> rfl
@[simp] theorem State.globalMask_appendCompletion (d : DescId) (s : State) : (s.appendCompletion d).globalMask = s.globalMask := by unfold State.appendCompletion; split <;> rfl
@[simp] theorem State.counterLink_appendCompletion (d : DescId) (s : State) : (s.appendCompletion d).counterLink = s.counterLink := by unfold State.appendCompletion; split <;> rfl
@[simp] theorem State.counterNumber_appendCompletion (d : DescId) (s : State) : (s.appendCompletion d).counterNumber = s.counterNumber := by unfold State.appendCompletion; split <;> rfl
@[simp] theorem State.readClears_appendCompletion (d : DescId) (s : State) : (s.appendCompletion d).readClears = s.readClears := by unfold State.appendCompletion; split <;> rfl
@[simp] theorem State.linkSelect_appendCompletion (d : DescId) (s : State) : (s.appendCompletion d).linkSelect = s.linkSelect := by unfold State.appendCompletion; split <;> rfl
@[simp] theorem State.argumentA_appendCompletion (d : DescId) (s : State) : (s.appendCompletion d).argumentA = s.argumentA := by unfold State.appendCompletion; split <;> rfl
@[simp] theorem State.argumentB_appendCompletion (d : DescId) (s : State) : (s.appendCompletion d).argumentB = s.argumentB := by unfold State.appendCompletion; split <;> rfl
@[simp] theorem State.resultCode_appendCompletion (d : DescId) (s : State) : (s.appendCompletion d).resultCode = s.resultCode := by unfold State.appendCompletion; split <;> rfl
@[simp] theorem State.resultCommand_appendCompletion (d : DescId) (s : State) : (s.appendCompletion d).resultCommand = s.resultCommand := by unfold State.appendCompletion; split <;> rfl
@[simp] theorem State.resetCause_appendCompletion (d : DescId) (s : State) : (s.appendCompletion d).resetCause = s.resetCause := by unfold State.appendCompletion; split <;> rfl
@[simp] theorem State.statusPosition_appendCompletion (d : DescId) (s : State) : (s.appendCompletion d).statusPosition = s.statusPosition := by unfold State.appendCompletion; split <;> rfl
@[simp] theorem State.statusHeld_appendCompletion (d : DescId) (s : State) : (s.appendCompletion d).statusHeld = s.statusHeld := by unfold State.appendCompletion; split <;> rfl
@[simp] theorem State.prescale_appendCompletion (d : DescId) (s : State) : (s.appendCompletion d).prescale = s.prescale := by unfold State.appendCompletion; split <;> rfl
@[simp] theorem State.tuLength_appendCompletion (d : DescId) (s : State) : (s.appendCompletion d).tuLength = s.tuLength := by unfold State.appendCompletion; split <;> rfl
@[simp] theorem State.tuElapsed_appendCompletion (d : DescId) (s : State) : (s.appendCompletion d).tuElapsed = s.tuElapsed := by unfold State.appendCompletion; split <;> rfl
@[simp] theorem State.readData_appendCompletion (d : DescId) (s : State) : (s.appendCompletion d).readData = s.readData := by unfold State.appendCompletion; split <;> rfl
@[simp] theorem State.freeIndex_appendCompletion (d : DescId) (s : State) : (s.appendCompletion d).freeIndex = s.freeIndex := by unfold State.appendCompletion; split <;> rfl
@[simp] theorem State.link_appendCompletion (d : DescId) (s : State) (m : LinkId) : (s.appendCompletion d).link m = s.link m := by unfold State.appendCompletion; split <;> rfl
@[simp] theorem State.le_appendCompletion (d : DescId) (s : State) (m : LinkId) : (s.appendCompletion d).le m = s.le m := by unfold State.appendCompletion; split <;> rfl
@[simp] theorem State.lu_appendCompletion (d : DescId) (s : State) (m : LinkId) : (s.appendCompletion d).lu m = s.lu m := by unfold State.appendCompletion; split <;> rfl

end Sys2Proof.Machine
end

