-- ==== Sys2Proof/Laws/Pool.lean ====
section
/-! SUPPORT. What a claim and a release do, and that each keeps the pool in order (R2, R3, R5, R7, R8, R18). -/

namespace Sys2Proof.Machine
open Sys2Proof.Safety

/-! ## Lists -/

/-- One entry of a list replaced: the concatenation changes by that entry. -/
theorem flatMap_set_perm {α β : Type} (f : α → List β) (l : List α) (i : Nat) (h : i < l.length) (r : α) :
    (f l[i] ++ (l.set i r).flatMap f).Perm (f r ++ l.flatMap f) := by
  induction l generalizing i with
  | nil => exact absurd h (by simp)
  | cons a l ih =>
    cases i with
    | zero =>
      simp only [List.getElem_cons_zero, List.set_cons_zero, List.flatMap_cons]
      rw [← List.append_assoc, ← List.append_assoc]
      exact List.perm_append_comm.append_right _
    | succ i =>
      simp only [List.getElem_cons_succ, List.set_cons_succ, List.flatMap_cons]
      have h' : i < l.length := by simpa using h
      have := (ih i h').append_left (f a)
      refine List.Perm.trans ?_ (this.trans ?_)
      · rw [← List.append_assoc, ← List.append_assoc]; exact List.perm_append_comm.append_right _
      · rw [← List.append_assoc, ← List.append_assoc]; exact List.perm_append_comm.append_right _

/-- The blocks of all descriptors after one descriptor is replaced. -/
theorem blocks_setDesc (s : State) (d : DescId) (r : Descriptor) :
    ((s.desc d).blocks ++ (s.setDesc d r).descs.toList.flatMap (·.blocks)).Perm
      (r.blocks ++ s.descs.toList.flatMap (·.blocks)) := by
  have h := flatMap_set_perm (fun x : Descriptor => x.blocks) s.descs.toList d.val (by simp) r
  have e : s.descs.toList[d.val]'(by simp) = s.desc d := by simp [State.desc, Vector.get_eq_getElem]
  rw [e] at h
  have e' : (s.setDesc d r).descs.toList = s.descs.toList.set d.val r := by
    simp [State.setDesc, Vector.toList_set]
  rw [e']; exact h

/-! ## Ownership depends on three fields -/

theorem PoolOk.congr {s t : State} (h : PoolOk s) (hd : t.descs = s.descs) (hf : t.freeDescs = s.freeDescs)
    (hb : t.freeBlocks = s.freeBlocks) : PoolOk t := by
  have e : ∀ d, t.desc d = s.desc d := fun d => by unfold State.desc; rw [hd]
  unfold PoolOk BlocksOwned FreeListed DescriptorsClean at *
  simp only [hd, hf, hb, e]; exact h

/-- A descriptor that is not FREE changed in fields other than its blocks, without becoming FREE. -/
theorem PoolOk.modDesc {s : State} (h : PoolOk s) (d : DescId) (f : Descriptor → Descriptor)
    (hblocks : ∀ r, (f r).blocks = r.blocks) (hfree : ∀ r : Descriptor, r.state ≠ .free → (f r).state ≠ .free)
    (hcomp : ∀ r : Descriptor, (f r).state = .completed → r.blocks = [] ∨ r.state = .completed) :
    PoolOk (s.modDesc d f) := by
  by_cases hs : (s.desc d).state = .free
  · have e : s.modDesc d f = s := by unfold State.modDesc; rw [if_pos hs]
    rw [e]; exact h
  · have e : s.modDesc d f = s.setDesc d (f (s.desc d)) := by unfold State.modDesc; rw [if_neg hs]
    rw [e]
    refine ⟨?_, ⟨h.2.1.1, fun x => ?_⟩, fun x => ?_, fun x => ?_⟩
    · have p := blocks_setDesc s d (f (s.desc d))
      rw [hblocks] at p
      have p' := (List.perm_append_left_iff _).mp p
      exact (p'.append_left _).trans h.1
    · rw [State.desc_setDesc]; split
      · rename_i hx; subst hx
        constructor
        · intro hm; exact absurd ((h.2.1.2 x).mp hm) hs
        · intro hx; exact absurd hx (hfree _ hs)
      · exact h.2.1.2 x
    · rw [State.desc_setDesc]; split
      · intro hx; exact absurd hx (hfree _ hs)
      · exact h.2.2.1 x
    · rw [State.desc_setDesc]; split
      · rename_i hx; subst hx
        intro hc
        rw [hblocks]
        rcases hcomp _ hc with hb | hc'
        · exact hb
        · exact h.2.2.2 _ hc'
      · exact h.2.2.2 x

/-! ## Release -/

/-- A release keeps the pool in order. -/
theorem PoolOk.releaseToFree {s : State} (h : PoolOk s) (d : DescId) : PoolOk (s.releaseToFree d) := by
  unfold State.releaseToFree; split
  · exact h
  · rename_i hs
    have key : PoolOk ({ s with freeBlocks := s.freeBlocks ++ (s.desc d).blocks, freeDescs := s.freeDescs ++ [d] }.setDesc
        d {}) := by
      have hdesc : ∀ x, ({ s with freeBlocks := s.freeBlocks ++ (s.desc d).blocks, freeDescs := s.freeDescs ++ [d] }.setDesc
          d {}).desc x = if x = d then {} else s.desc x := fun x => State.desc_setDesc _ _ _ _
      refine ⟨?_, ⟨?_, fun x => ?_⟩, fun x => ?_, fun x => ?_⟩
      · have p : ((s.desc d).blocks ++ (s.setDesc d {}).descs.toList.flatMap (·.blocks)).Perm
            (s.descs.toList.flatMap (·.blocks)) := by simpa using blocks_setDesc s d {}
        show ((s.freeBlocks ++ (s.desc d).blocks) ++ (s.setDesc d {}).descs.toList.flatMap (·.blocks)).Perm _
        rw [List.append_assoc]
        exact (p.append_left _).trans h.1
      · refine List.nodup_append.mpr ⟨h.2.1.1, by simp, ?_⟩
        intro a ha b hb hab
        have hbd : b = d := by simpa using hb
        subst hbd; subst hab
        exact hs ((h.2.1.2 a).mp ha)
      · rw [hdesc]; split
        · rename_i hx; subst hx; simp
        · rename_i hx
          show x ∈ s.freeDescs ++ [d] ↔ _
          simp only [List.mem_append, List.mem_singleton, hx, or_false]
          exact h.2.1.2 x
      · rw [hdesc]; split
        · intro _; rfl
        · exact h.2.2.1 x
      · rw [hdesc]; split
        · intro _; rfl
        · exact h.2.2.2 x
    exact PoolOk.congr key (by simp) (by simp) (by simp)

/-- A release of blocks keeps the pool in order (R16). -/
theorem PoolOk.releaseBlocks {s : State} (h : PoolOk s) (d : DescId) : PoolOk (s.releaseBlocks d) := by
  unfold State.releaseBlocks; split
  · exact h
  · rename_i hs
    have key : PoolOk ({ s with freeBlocks := s.freeBlocks ++ (s.desc d).blocks }.setDesc d
        { s.desc d with blocks := [] }) := by
      have hdesc : ∀ x, ({ s with freeBlocks := s.freeBlocks ++ (s.desc d).blocks }.setDesc d
          { s.desc d with blocks := [] }).desc x = if x = d then { s.desc d with blocks := [] } else s.desc x :=
        fun x => State.desc_setDesc _ _ _ _
      refine ⟨?_, ⟨h.2.1.1, fun x => ?_⟩, fun x => ?_, fun x => ?_⟩
      · have p : ((s.desc d).blocks ++ (s.setDesc d { s.desc d with blocks := [] }).descs.toList.flatMap
            (·.blocks)).Perm (s.descs.toList.flatMap (·.blocks)) := by
          simpa using blocks_setDesc s d { s.desc d with blocks := [] }
        show ((s.freeBlocks ++ (s.desc d).blocks) ++ (s.setDesc d { s.desc d with blocks := [] }).descs.toList.flatMap
          (·.blocks)).Perm _
        rw [List.append_assoc]
        exact (p.append_left _).trans h.1
      · rw [hdesc]; split
        · rename_i hx; subst hx; exact h.2.1.2 x
        · exact h.2.1.2 x
      · rw [hdesc]; split
        · intro hx; exact absurd hx hs
        · exact h.2.2.1 x
      · rw [hdesc]; split
        · intro _; rfl
        · exact h.2.2.2 x
    exact PoolOk.congr key (by simp) (by simp) (by simp)

/-! ## Claim -/

/-- What a granted claim answers: the head of the free descriptor list, filled, with the first blocks of the free block
list; every other descriptor as it was (R2, R6, R8, R9). -/
theorem State.claim_spec {s t : State} {n : LinkId} {len : Nat} {fill : Descriptor} {d : DescId}
    (h : s.claim n len fill = some (d, t)) :
    s.claimGranted n len = true ∧ s.freeDescs = d :: t.freeDescs ∧
      s.freeBlocks = (t.desc d).blocks ++ t.freeBlocks ∧ (t.desc d).blocks.length = blocksFor len ∧
      t.desc d = { fill with blocks := (t.desc d).blocks } ∧ (∀ x, x ≠ d → t.desc x = s.desc x) ∧
      t.links = s.links ∧ t.mem = s.mem := by
  unfold State.claim at h
  split at h
  · exact absurd h (by simp)
  · rename_i d' rest hfree
    split at h
    · rename_i hg
      simp only [Option.some.injEq, Prod.mk.injEq] at h
      obtain ⟨rfl, rfl⟩ := h
      have hlen : blocksFor len ≤ s.freeBlocks.length := by
        unfold State.claimGranted at hg
        simp only [Bool.and_eq_true, decide_eq_true_eq] at hg
        omega
      refine ⟨hg, ?_, ?_, ?_, ?_, ?_, ?_, ?_⟩
      · simpa using hfree
      · simp
      · simp [hlen]
      · simp
      · intro x hx
        rw [State.desc_afterClaim, State.desc_setDesc, if_neg hx]; rfl
      · simp
      · simp
    · exact absurd h (by simp)

/-- A granted claim keeps the pool in order. -/
theorem PoolOk.claim {s t : State} (h : PoolOk s) {n : LinkId} {len : Nat} {fill : Descriptor} {d : DescId}
    (hc : s.claim n len fill = some (d, t)) (hfree : fill.state ≠ .free) (hcomp : fill.state ≠ .completed) :
    PoolOk t := by
  have hsp := State.claim_spec hc
  have hdm : d ∈ s.freeDescs := by rw [hsp.2.1]; simp
  have hd : s.desc d = {} := h.2.2.1 d ((h.2.1.2 d).mp hdm)
  have hnd : (d :: t.freeDescs).Nodup := hsp.2.1 ▸ h.2.1.1
  have hstate : (t.desc d).state = fill.state := by rw [hsp.2.2.2.2.1]
  refine ⟨?_, ⟨(List.nodup_cons.mp hnd).2, fun x => ?_⟩, fun x => ?_, fun x => ?_⟩
  · have hdescs : t.descs = s.descs.set d (t.desc d) := by
      apply Vector.ext
      intro i hi
      have := State.desc_setDesc d ⟨i, hi⟩ (t.desc d) s
      rw [← Vector.get_eq_getElem t.descs ⟨i, hi⟩, ← Vector.get_eq_getElem (s.descs.set d (t.desc d)) ⟨i, hi⟩]
      show t.desc ⟨i, hi⟩ = (s.setDesc d (t.desc d)).desc ⟨i, hi⟩
      rw [this]; split
      · rename_i e; rw [e]
      · rename_i e; exact hsp.2.2.2.2.2.1 _ e
    have p : ((s.setDesc d (t.desc d)).descs.toList.flatMap (·.blocks)).Perm
        ((t.desc d).blocks ++ s.descs.toList.flatMap (·.blocks)) := by
      simpa [hd] using blocks_setDesc s d (t.desc d)
    show (t.freeBlocks ++ t.descs.toList.flatMap (·.blocks)).Perm _
    rw [hdescs]
    have h1 := h.1
    unfold BlocksOwned at h1
    rw [hsp.2.2.1] at h1
    refine ((p.append_left t.freeBlocks).trans ?_).trans h1
    rw [← List.append_assoc]
    exact List.perm_append_comm.append_right _
  · by_cases hx : x = d
    · subst hx
      rw [hstate]
      exact ⟨fun hm => absurd hm (List.nodup_cons.mp hnd).1, fun e => absurd e hfree⟩
    · rw [hsp.2.2.2.2.2.1 x hx, ← h.2.1.2 x, hsp.2.1]
      simp [hx]
  · by_cases hx : x = d
    · subst hx; rw [hstate]; intro e; exact absurd e hfree
    · rw [hsp.2.2.2.2.2.1 x hx]; exact h.2.2.1 x
  · by_cases hx : x = d
    · subst hx; rw [hstate]; intro e; exact absurd e hcomp
    · rw [hsp.2.2.2.2.2.1 x hx]; exact h.2.2.2 x

/-! ## The watermark condition (R18) -/

theorem WatermarkOk.congr {s t : State} (h : WatermarkOk s) (ha : t.armed = s.armed) (hw : t.watermark = s.watermark)
    (hb : t.freeBlocks = s.freeBlocks) : WatermarkOk t := by
  unfold WatermarkOk at *; rw [ha, hw, hb]; exact h

/-- A claim disarms the condition exactly when it takes the pool below the watermark. -/
theorem WatermarkOk.afterClaim {s : State} (h : s.armed = true ∨ s.freeBlocks.length < s.watermark) :
    WatermarkOk s.afterClaim := by
  unfold State.afterClaim WatermarkOk; split
  · rename_i hc
    simp [Nat.not_le.mpr hc.1]
  · rename_i hc
    rcases h with h | h
    · simp only [h, and_true, Nat.not_lt] at hc; simp [h, hc]
    · have : s.armed = false := by simpa [h] using hc
      simp [this, Nat.not_le.mpr h]

/-- A release arms the condition exactly when the pool has recovered to the watermark. -/
theorem WatermarkOk.rearm {s : State} (h : s.armed = false ∨ s.watermark ≤ s.freeBlocks.length) :
    WatermarkOk s.rearm := by
  unfold State.rearm WatermarkOk; split
  · rename_i hc; simp [hc]
  · rename_i hc
    rcases h with h | h
    · simp [h, hc]
    · exact absurd h hc

end Sys2Proof.Machine
end

