-- ==== Sys2Proof/Laws/Tick.lean ====
section
/-! SUPPORT. What one REFCLK period does, field by field, and when an expiry row does nothing (R41, R114, R115, R126). -/

namespace Sys2Proof.Machine

/-! ## What a period changes in a Line Unit -/

/-- The recogniser's period changes the recogniser alone. -/
theorem rxTick_frame (prev now : Bool) (u : LineUnit) : { u.rxTick prev now with rx := u.rx } = u := rfl

/-- The gap timer's period changes the gap timer alone. -/
theorem gapTick_frame (u : LineUnit) : { u.gapTick with gapTimer := u.gapTimer } = u := rfl

/-- The transmitter's period changes the transmitter alone. -/
theorem txTick_frame (u : LineUnit) : { u.txTick with tx := u.tx } = u := by
  unfold LineUnit.txTick
  split
  · split <;> rfl
  · rfl

/-- A link's period leaves everything but its timers, its recogniser and its transmitter alone. -/
theorem linkTick_frame (boundary prev now : Bool) (l : Link) :
    { l.tick boundary prev now with
      le := { (l.tick boundary prev now).le with timer := l.le.timer, holdTimer := l.le.holdTimer }, lu := l.lu } = l := by
  cases boundary <;> rfl

/-! ## What a period changes in the part -/

/-- A link after one REFCLK period. -/
theorem tick_link (s : State) (n : LinkId) :
    s.tick.link n = (s.link n).tick s.boundaryNow (s.rxd.get n).level (s.rxd.get n).next := by
  fin_cases n <;> rfl

/-- A receive line after one REFCLK period. -/
theorem tick_rxd (s : State) (n : LinkId) : s.tick.rxd.get n = (s.rxd.get n).tick := by
  fin_cases n <;> rfl

/-- A period changes the links, the receive lines, the timebase and the queue, and nothing else. -/
theorem tick_frame (s : State) :
    { s.tick with links := s.links, rxd := s.rxd, tuElapsed := s.tuElapsed, tuLength := s.tuLength, pending := s.pending,
                  freeIndex := s.freeIndex } = s := rfl

/-! ## Timers that do not expire -/

/-- A timer held off has not come to its duration (R126). -/
theorem holdOff_over (t : LinkTimer) (h : 1 ≤ t.duration) : t.holdOff.over = false := by
  refine decide_eq_false ?_
  simp only [LinkTimer.holdOff]
  omega

/-- A timer that has not come to its duration is not changed by being held off. -/
theorem holdOff_eq_self (t : LinkTimer) (h : t.over = false) : t.holdOff = t := by
  obtain ⟨mode, duration, count⟩ := t
  simp only [LinkTimer.over, decide_eq_false_iff_not] at h
  simp only [LinkTimer.holdOff, LinkTimer.mk.injEq, true_and]
  omega

/-- An expiry row of a mode in which the link timer does not run, or in which it has not come to its duration, does
nothing (R116, R126). -/
theorem expireIn_eq_self (n : LinkId) (mode : TimerMode) (s : State)
    (h : ∀ t, (s.le n).timer = some t → t.mode = mode → t.over = false) : s.expireIn n mode = s := by
  unfold State.expireIn
  cases e : (s.le n).timer with
  | none => simp
  | some t =>
    by_cases m : t.mode = mode
    · simp [m, h t e m]
    · simp [m]

/-- An expiry row of a timer that has come to its duration in that mode is taken. -/
theorem expireIn_eq_expires (n : LinkId) (mode : TimerMode) (s : State) (t : LinkTimer) (e : (s.le n).timer = some t)
    (m : t.mode = mode) (h : t.over = true) : s.expireIn n mode = s.linkTimerExpires n mode := by
  simp [State.expireIn, e, m, h]

end Sys2Proof.Machine
end

