-- ==== Sys2Proof/Tests/Slice0.lean ====
section
/-! SUPPORT. Tests of the model on small states, and one witness for the hypotheses of each statement. -/

namespace Sys2Proof.Tests
open Sys2Proof Sys2Proof.Machine Sys2Proof.Safety

-- One theorem at a time: the build gives every theorem that waits for the kernel a thread and its stack.
set_option Elab.async false

/-! ## Helpers -/

/-- The state a command answers, or the state it was given. -/
def after (c : Instr) (s : State) : State :=
  match exec c s with
  | .next t => t
  | _ => s

/-- Descriptor `d` taken out of the free pool with its blocks and given the record `r`. -/
def taken (d : DescId) (r : Descriptor) (s : State) : State :=
  { s with descs := s.descs.set d r, freeDescs := s.freeDescs.erase d,
           freeBlocks := s.freeBlocks.filter fun b => !r.blocks.contains b }

/-- Link 0 in a session state under epoch 3, its line UP; CONTROL mode runs in OPENING and CLOSING. Its expiry and that of the
line-loss timer are due. -/
def inState (st : SessionState) : State :=
  State.reset.modLink 0 fun l => { l with
    le := { l.le with
      session := st, epoch := 3, peerCredit := 2
      timer := if st = .opening ∨ st = .closing then some { mode := .control, duration := 200, count := 200 } else none
      drainOrigin := if st = .draining then some .host else none }
    lu := { l.lu with lineState := .up, run := 16, lossTimer := some 500 } }

/-- A staged, sent or received descriptor of link 0 with one block and 3 bytes. -/
def outbound (st : DescState) : Descriptor :=
  { state := st, link := some 0, direction := some .outbound, length := some 3, blocks := [0], tag := some 7,
    resends := some 0, seen := some false, resendPending := some false, onLine := some false }

/-- An outbound descriptor after its first send as ordinal 0 under epoch 3. -/
def sent (st : DescState) (onLine : Bool) : Descriptor :=
  { outbound st with epoch := some 3, ordinal := some 0, onLine := some onLine }

/-- An inbound descriptor of link 0 with an ordinal. -/
def inbound (st : DescState) (b : BlockId) (o : Sys2Proof.Ordinal) : Descriptor :=
  { state := st, link := some 0, direction := some .inbound, length := some 3, blocks := [b], epoch := some 3,
    ordinal := some o, copy := some false, held := some false }

/-- Link 0's transmitter in FILL. -/
def filling (s : State) : State := s.modLink 0 idleStarted

/-- Link 0 OPEN with a parcel in its submit queue. -/
def submitting : State :=
  ((taken 0 (outbound .submitted) (inState .open_)).modLE 0 fun e => { e with submit := [0] })

/-- Link 0 in a state with one parcel retained. -/
def retaining (st : SessionState) : State :=
  (taken 0 (sent .retained false) (inState st)).modLE 0 fun e =>
    { e with retention := [0], nextOrdinal := 1, timer := some { mode := .resend, duration := 200, count := 200 } }

/-- Link 0 OPEN with one parcel retained whose copy is on the line. -/
def sending : State :=
  ((taken 0 (sent .retained true) (inState .open_)).modLE 0 fun e =>
    { e with retention := [0], nextOrdinal := 1 }).modLink 0 (parcelStarted [] (some 0))

/-- Link 0 OPEN with a DETACHED parcel on the line. -/
def detached (o : ParcelOutcome) : State :=
  (taken 0 { sent .detached true with outcome := some o } (inState .open_)).modLink 0 (parcelStarted [] (some 0))

/-- The receive record of a stored DATA parcel of 3 bytes with ordinal `o`, ready for its EOP. -/
def storedRecord (o : Sys2Proof.Ordinal) : RxRecord :=
  { phase := .inParcel, count := 8, kind := some (.named .data), epoch := some 3, copy := some false, ordinal := some o,
    length := some 3, storage := some .storing, descriptor := some 0, check := 0 }

/-- Link 0 in a live session with a whole DATA parcel of ordinal `o` in its receive record. -/
def arriving (st : SessionState) (o : Sys2Proof.Ordinal) : State :=
  (taken 0 (inbound .assembling 0 o) (inState st)).modLU 0 fun u =>
    { u with record := storedRecord o, gapTimer := some { elapsed := 1536, charTime := 192 } }

/-- The same with descriptor 1 held at offset 1. -/
def arrivingBehind (o : Sys2Proof.Ordinal) : State :=
  (taken 1 (inbound .held 1 1) (arriving .open_ o)).modLE 0 fun e => { e with window := e.window.set 0 (some 1) }

/-- Link 0 in a session state with a parcel in its receive record. -/
def receiving (st : SessionState) (r : RxRecord) : State :=
  (inState st).modLU 0 fun u => { u with record := r, gapTimer := some { elapsed := 1536, charTime := 192 } }

/-- A receive record at the *length* byte of DATA. -/
def lengthRecord : RxRecord :=
  { phase := .inParcel, count := 2, kind := some (.named .data), epoch := some 3, copy := some false
    ordinal := some 0 }

/-- The receive record of a whole DROP parcel. -/
def dropRecord : RxRecord :=
  { phase := .inParcel, count := 3, kind := some (.named .drop), epoch := some 3, storage := some .control }

/-- A staging context on link 0 with `written` of its 3 bytes. -/
def stagingWith (st : SessionState) (written : Nat) : State :=
  { taken 0 (outbound .staging) (inState st) with
    staging := some { link := 0, length := 3, tag := 7, descriptor := 0, writeCount := written } }

/-- One parcel of 3 bytes in the delivery queue, `pointer` of them read. -/
def delivering (pointer : Nat) : State :=
  { taken 0 (inbound .delivered 0 0) (inState .open_) with
    delivery := [0], readPointer := pointer, mem := [(0, 0x11), (1, 0x22), (2, 0x33)] }

/-- One record in the completion queue. -/
def completing : State :=
  { taken 0 { sent .completed false with blocks := [], outcome := some .delivered } (inState .open_) with
    completion := [0] }

/-! ## Well-formedness -/

theorem test_wf_assigned_code_refused : (Instr.unassignedCommandCode 1 0).wf = false := by decide
theorem test_wf_unassigned_code_taken : (Instr.unassignedCommandCode 0xC 0).wf = true := by decide
theorem test_wf_address_with_own_row_refused : (Instr.registerWrite 0x03 0).wf = false := by decide
theorem test_wf_register_taken : (Instr.registerWrite 0x0F 3).wf = true := by decide

/-! ## From a bus write to its row -/

theorem test_command_word_open_link2 : writeRow 0 0xFF21 = .hostOpen 2 := by decide
theorem test_command_word_unassigned : writeRow 0 0x000D = .unassignedCommandCode 0xD 0 := by decide
theorem test_word_open_link2 : decodeTableWord 16 0xFF21 = some (.hostOpen 2) := by decide
theorem test_word_of_eight_bits : decodeTableWord 8 0x3F = some (.deviceReset 3) := by decide
theorem test_word_of_another_length : decodeTableWord 32 0x21 = none := by decide
theorem test_fetched_word_waits_in_front :
    ({ State.reset with pending := [.pinReset] }.withFetchWord 16 0x0021).pending = [.hostOpen 2, .pinReset] := by decide
theorem test_read_with_late_write_strobe :
    ({ reset := false, read := true, write := false, otherStrobe := true, address := 3, data := 0 } :
      BusCycle).access = some (.read 3) := by decide

/-! ## Characters, check sequence, headers -/

theorem test_idle_character : (LineChar.control .idle).encode = 0b101101001010 := by decide
theorem test_zero_byte_character : (LineChar.data 0).encode = 0b110000000000 := by decide
theorem test_wrong_parity : classify 0b100000000000 = .faulted := by decide
theorem test_stop_at_space : classify 0b010000000000 = .faulted := by decide
theorem test_unknown_code : classify 0b101000000000 = .faulted := by decide
theorem test_resend_first_byte : firstByte .data true 7 = 0x78 := by decide
theorem test_receipt_first_byte : firstByte .receipt false 7 = 0x71 := by decide
theorem test_check_of_123456789 :
    checkOf [0x31, 0x32, 0x33, 0x34, 0x35, 0x36, 0x37, 0x38, 0x39] = 0x6F91 := by decide +kernel
theorem test_kind_code_unnamed : kindCode 0x79 = .unnamed := by decide

/-! ## Numbers of the spec -/

theorem test_backoff_durations :
    [0, 1, 2, 3, 15].map (fun c => ({ LinkEngine.reset with retryCount := c }).timerDuration) =
      [200, 400, 800, 1600, 1600] := by decide
theorem test_credit_at_reset : State.reset.credit 0 = 8 := by decide +kernel

/-! ## Commands -/

theorem test_open : ((after (.hostOpen 0) .reset).le 0).session = .opening ∧
    ((after (.hostOpen 0) .reset).le 0).epoch = 1 := by decide
theorem test_close_in_open : ((after (.hostClose 0) (retaining .open_)).le 0).session = .draining := by decide
theorem test_abort : ((after (.hostAbort 0) (inState .open_)).le 0).endCause = .aborted := by decide +kernel
theorem test_link_reset_frees :
    (after (.linkReset 0) submitting).freeBlocks.length = 128 := by decide +kernel
theorem test_set_guarantee :
    ((after (.setGuarantee 1) { State.reset with argumentA := 40 }).link 1).guarantee = 40 := by decide +kernel
theorem test_begin :
    (after (.beginStaging 0) { inState .open_ with argumentA := 65, argumentB := 9 }).freeBlocks.length = 126 := by
  decide +kernel
theorem test_commit : ((after (.commit 0) (stagingWith .open_ 3)).le 0).submit = [0] := by decide
theorem test_cancel : (after (.cancel 0) (stagingWith .open_ 1)).freeDescs.length = 64 := by decide +kernel
theorem test_release : (after (.release 0) (delivering 3)).delivery = [] := by decide +kernel
theorem test_pop : (after (.pop 0) completing).freeDescs.length = 64 := by decide +kernel
theorem test_clear_counters :
    ((after (.clearCounters 0) (State.reset.bump 0 .badRcpt)).counter 0 .badRcpt) = 0 := by decide
theorem test_device_reset_result : (after (.deviceReset 0) (inState .open_)).resultWord = 0x01F0 := by decide
theorem test_unassigned_code : (after (.unassignedCommandCode 0xE 9) .reset).resultWord = 0x00E2 := by decide
theorem test_pin_reset : ((after .pinReset (inState .open_)).le 0).session = .closed := by decide
theorem test_stage_data :
    (after (.stageDataWrite 0xBBAA) (stagingWith .open_ 0)).mem = [(0, 0xAA), (1, 0xBB)] := by decide +kernel
theorem test_stage_last_odd_byte :
    (after (.stageDataWrite 0xBBAA) (stagingWith .open_ 2)).mem = [(2, 0xAA)] := by decide +kernel
theorem test_delivery_read : (after .deliveryDataRead (delivering 0)).readData = some 0x2211 := by decide +kernel
theorem test_delivery_read_odd : (after .deliveryDataRead (delivering 2)).readData = some 0x0033 := by decide +kernel
theorem test_counter_read :
    (after .counterValueRead { State.reset.bump 0 .dataSent with readClears := true }).readData = some 1 := by decide
theorem test_link_status_read : (after .linkStatusRead (inState .open_)).readData = some 0x001A := by decide
theorem test_link_select : (after (.linkSelectWrite 0xFFFE) .reset).linkSelect = 2 := by decide
theorem test_events_write :
    (after (.eventsWrite .global 0x01) { State.reset with globalEvents := 0x03 }).globalEvents = 0x02 := by decide
theorem test_mask_write :
    (after (.maskWrite .link 0xFFFF) .reset |>.link 0).mask = 0x7F := by decide
theorem test_watermark_write : (after (.poolWatermarkWrite 0xFFFF) .reset).watermark = 128 := by decide +kernel
theorem test_gap_limit_write : ((after (.lineLimitsWrite .gap 0) .reset).lu 0).gapLimit = 1 := by decide
theorem test_register_write : ((after (.registerWrite 0x0F 2) .reset).lu 0).divider = 3 := by decide
theorem test_sixteenth_character :
    ((after (.receiveCharacter 0 (LineChar.control .idle).encode)
      (State.reset.modLU 0 fun u => { u with run := 15 })).lu 0).lineState = .up := by decide
theorem test_held_all_space : ((after (.receiveCharacter 0 0) .reset).lu 0).heldSpace = true := by decide
theorem test_break : ((after (.lineBreak 0) (inState .open_)).le 0).endCause = .lineLost := by decide +kernel
theorem test_line_loss : ((after (.lineLossExpiry 0) (inState .closed)).lu 0).lineState = .down := by decide +kernel
theorem test_gap_expiry :
    (after (.gapTimerExpiry 0) (arriving .open_ 0)).counter 0 .dropLine = 1 := by decide +kernel
theorem test_receive_data_promotes : (after (.receiveData 0) (arrivingBehind 0)).delivery = [0, 1] := by decide +kernel
theorem test_receipt_completes :
    (after (.receiveReceipt 0 3 1 0 9) (retaining .open_)).completion = [0] ∧
      ((after (.receiveReceipt 0 3 1 0 9) (retaining .open_)).le 0).peerCredit = 8 := by decide +kernel
theorem test_query : ((after (.receiveQuery 0 3) (inState .open_)).le 0).pending.receipt = true := by decide
theorem test_receive_open_rank :
    ((after (.receiveOpen 0 5 1 4) (inState .opening)).le 0).epoch = 5 ∧
      ((after (.receiveOpen 0 5 0 4) (inState .opening)).link 0).events = 0x10 := by decide
theorem test_receive_grant : ((after (.receiveGrant 0 3 4) (inState .opening)).le 0).session = .open_ := by decide
theorem test_receive_close : ((after (.receiveClose 0 3) (retaining .open_)).le 0).drainOrigin = some .peer := by decide
theorem test_receive_close_ack : ((after (.receiveCloseAck 0 3) (inState .closing)).le 0).endCause = .normal := by
  decide +kernel
theorem test_receive_drop : ((after (.receiveDrop 0 3) (inState .draining)).le 0).endCause = .peerDrop := by
  decide +kernel
theorem test_drain : ((after (.drainComplete 0) (inState .draining)).le 0).session = .closing := by decide +kernel
theorem test_choice_first_send :
    ((after (.transmitChoice 0) (filling submitting)).lu 0).tx.rest.length = 9 := by decide +kernel
theorem test_transmission_end :
    ((after (.transmissionEnd 0) sending).le 0).timerMode = some .resend := by decide +kernel
theorem test_abort_end :
    (after (.abortEnd 0) ((detached .abandoned).modTx 0 fun t => { t with cut := true })).completion = [0] := by
  decide +kernel
/-- Link 0's transmitter at the end of the mark after a reset, and its recogniser in the stop bit of a data byte. -/
def atEnds : State :=
  (State.reset.modTx 0 fun t => { t with elapsed := 192 }).modLU 0 fun u =>
    { u with rx := { phase := .receiving 16 184 0xC00 } }

theorem test_reset_holds_mark_again :
    ((after (.transmitterFillStart 0) (after (.deviceReset 0) atEnds)).lu 0).tx.phase = .mark := by decide
theorem test_reset_loses_the_character :
    ((after (.receiveCharacter 0 0xC00) (after (.deviceReset 0) atEnds)).lu 0).run = 0 ∧
      ((after (.receiveCharacter 0 0xC00) atEnds).lu 0).run = 1 := by decide
theorem test_fill_start : ((after (.transmitterFillStart 0) .reset).lu 0).tx.phase = .mark ∧
    ((after (.transmitterFillStart 0) (State.reset.modTx 0 fun t => { t with elapsed := 192 })).lu 0).tx.phase = .fill := by decide
theorem test_control_expiry :
    ((after (.controlExpiry 0) (inState .opening)).le 0).timer =
      some { mode := .control, duration := 400, count := 0 } := by decide
theorem test_resend_expiry :
    (after (.resendExpiry 0) (retaining .open_)).resendCandidate 0 = some 0 := by decide
theorem test_query_expiry_in_another_mode : after (.queryExpiry 0) (retaining .open_) = retaining .open_ := by
  decide +kernel
theorem test_hold_expiry :
    ((after (.receiptHoldExpiry 0) ((inState .open_).modLE 0 fun e => { e with holdTimer := some 10 })).le
      0).pending.receipt = true := by decide
theorem test_expiry_after_a_receipt_does_not_occur :
    ((after (.resendExpiry 0) (after (.receiveReceipt 0 3 0 0 9) (retaining .open_))).le 0).retryCount = 0 := by
  decide +kernel
theorem test_expiry_before_its_duration :
    ((after (.controlExpiry 0) (after (.controlExpiry 0) (inState .opening))).le 0).retryCount = 1 := by decide
theorem test_grant_choice_clears_open :
    ((after (.transmitChoice 0) (filling ((inState .open_).modLE 0 fun e =>
      { e with pending := { grant := true, open_ := true } }))).le 0).pending = {} := by decide +kernel
theorem test_return_to_mark :
    (after (.rxdReturnsToMark 0) (State.reset.modLU 0 fun u => { u with heldSpace := true })).counter 0 .charFaults =
      1 := by decide

/-! ## RXD, the bus and the clock -/

/-- A Line Unit at the shortest bit time, 4 REFCLK periods. -/
def fastLine : LineUnit := { LineUnit.reset with divider := 3 }

/-- The levels of RXD over a character's twelve bit times at 4 REFCLK periods each. -/
def wave (x : BitVec 12) : List Bool := (List.range 48).map fun k => x.getLsbD (k / 4)

theorem test_wave_of_sop : recognisedOver 2 true fastLine (wave (LineChar.control .sop).encode) =
    [.receiveCharacter 2 (LineChar.control .sop).encode] := by decide +kernel
theorem test_false_start : recognisedOver 2 true fastLine [false, false, true, true, true] = [] := by decide +kernel
theorem test_wave_of_break : recognisedOver 2 true fastLine (List.replicate 99 false ++ [true]) =
    [.receiveCharacter 2 0, .lineBreak 2, .rxdReturnsToMark 2] := by decide +kernel
theorem test_wave_of_held_character : recognisedOver 2 true fastLine (List.replicate 96 false ++ [true]) =
    [.receiveCharacter 2 0, .rxdReturnsToMark 2] := by decide +kernel
theorem test_stop_at_space_waits_for_mark :
    recognisedOver 2 true fastLine (wave 0x002 ++ List.replicate 60 false ++ [true]) =
      [.receiveCharacter 2 0x002, .rxdReturnsToMark 2] := by decide +kernel
theorem test_reset_at_space :
    ((after .pinReset { State.reset with rxd := State.reset.rxd.set 1 { level := false } }).lu 1).rx.phase = .waitMark := by
  decide +kernel
theorem test_bus_read_drives : State.reset.startCycle
    { reset := false, read := true, write := false, otherStrobe := false, address := 0x15, data := 0 } =
      .next { State.reset with readData := some 0x0640 } := by rfl
theorem test_bus_write_is_a_command : { State.reset with readData := some 1 }.endCycle
    { reset := false, read := false, write := true, otherStrobe := false, address := 0, data := 0x0033 } =
      exec (.hostAbort 3) State.reset := by rfl
theorem test_idle_step_samples_rxd : ∃ t, step { State.reset with rxd := State.reset.rxd.set 0 { coming := [false] } } =
    .next t ∧ (t.lu 0).rx.phase = .receiving 16 0 0 := ⟨_, rfl, by decide⟩

/-! ## Witnesses: states that meet the hypotheses of the statements -/

theorem witness_idle_inside_and_at_a_boundary :
    State.reset.pending = [] ∧ State.reset.tuElapsed + 1 < State.reset.tuLength ∧
      ({ State.reset with tuElapsed := 1599 }).pending = [] ∧ ¬ (1599 + 1 < State.reset.tuLength) := by decide +kernel

theorem witness_resets :
    (∃ c : Instr, c = .pinReset ∨ ∃ l, c = .deviceReset l) ∧ ∃ c : Instr, c ≠ .pinReset ∧ (c = .pinReset ∨ ∃ l, c = .deviceReset l) := 
  ⟨⟨.pinReset, .inl rfl⟩, .deviceReset 0, by decide, .inr ⟨0, rfl⟩⟩

theorem witness_ResetRegisterMap :
    ∃ t u, exec .pinReset State.reset = .next t ∧ exec (.deviceReset 0) State.reset = .next u := ⟨_, _, rfl, rfl⟩

theorem witness_BusCycleAccess :
    ∃ c d e : BusCycle, (c.reset = true ∨ c.read = c.write) ∧ (d.reset = false ∧ d.read = true ∧ d.write = false) ∧
      (e.reset = false ∧ e.read = false ∧ e.write = true) := 
  ⟨⟨true, true, false, false, 0, 0⟩, ⟨false, true, false, false, 0, 0⟩, ⟨false, false, true, true, 0, 0⟩, by decide⟩

theorem witness_LinkStatusSequence :
    State.reset.statusPosition = .first ∧ ({ State.reset with statusPosition := .second }).statusPosition = .second ∧
      ({ LinkEngine.reset with retryCount := 15 }).retryCount ≤ 15 := by decide

theorem witness_WatermarkWriteComparesAtOnce :
    (128 ≤ State.reset.freeBlocks.length) ∧
      (submitting.freeBlocks.length < 128 ∧ submitting.armed = true) ∧
      (({ submitting with armed := false }).freeBlocks.length < 128 ∧ ({ submitting with armed := false }).armed = false) := by decide +kernel

theorem witness_ClaimsAndCreditFollowTheGrantableAmounts :
    1 ≤ 240 ∧ ∃ r, State.reset.claim 0 240 (outbound .staging) = some r :=
  ⟨by decide, Option.isSome_iff_exists.mp (by decide +kernel)⟩

theorem witness_BeginTestsInOrder :
    (stagingWith .open_ 0).staging ≠ none ∧ State.reset.staging = none ∧ 4 ≤ (4 : BitVec 4).toNat ∧
      (3 : BitVec 4).toNat = (3 : LinkId).val ∧ ((inState .open_).le 3).session ≠ .opening ∧
      ((inState .opening).le 0).session = .opening ∧ ((inState .open_).le 0).session = .open_ ∧
      ({ inState .open_ with freeDescs := [] }).freeDescs = [] ∧
      (inState .open_).freeDescs ≠ [] ∧ (240 + 63) / 64 ≤ (inState .open_).grantableBlocks 0 ∧
      ({ inState .open_ with freeBlocks := [1, 2, 3] }).grantableBlocks 0 < (240 + 63) / 64 := by decide +kernel

theorem witness_StageDataStoresBytes_overrun :
    State.reset.staging = none ∧ ∃ c, (stagingWith .open_ 3).staging = some c ∧ c.length ≤ c.writeCount := 
  ⟨rfl, _, rfl, by decide⟩

theorem witness_CommitTestsInOrder :
    State.reset.staging = none ∧ (∃ c, (stagingWith .open_ 2).staging = some c ∧ c.writeCount < c.length) ∧
      (∃ c, (stagingWith .draining 3).staging = some c ∧ c.length ≤ c.writeCount ∧
        ((stagingWith .draining 3).le c.link).session ≠ .opening ∧ ((stagingWith .draining 3).le c.link).session ≠ .open_) ∧
      (∃ c s, s = (stagingWith .open_ 3).modLE 0 (fun e => { e with submit := [1, 2, 3, 4, 5, 6, 7, 8] }) ∧
        s.staging = some c ∧ c.length ≤ c.writeCount ∧ (s.le c.link).session = .open_ ∧ 8 ≤ (s.le c.link).submit.length) ∧
      (∃ c, (stagingWith .opening 3).staging = some c ∧ c.length ≤ c.writeCount ∧
        ((stagingWith .opening 3).le c.link).session = .opening ∧ ((stagingWith .opening 3).le c.link).submit.length < 8 ∧
        ((stagingWith .opening 3).desc c.descriptor).state = .staging) := 
  ⟨rfl, ⟨_, rfl, by decide⟩, ⟨_, rfl, by decide, by decide, by decide⟩, ⟨_, _, rfl, rfl, by decide, by decide, by decide⟩,
    ⟨_, rfl, by decide, by decide, by decide, by decide +kernel⟩⟩

theorem witness_CancelReleaseAndPopFreeOne :
    (∃ c, (stagingWith .open_ 1).staging = some c ∧ ((stagingWith .open_ 1).desc c.descriptor).state = .staging) ∧
      (∃ d rest, (delivering 3).delivery = d :: rest ∧ ((delivering 3).desc d).state = .delivered) ∧
      (∃ d rest, completing.completion = d :: rest ∧ (completing.desc d).state = .completed) ∧
      State.reset.staging = none ∧ State.reset.delivery = [] ∧ State.reset.completion = [] := 
  ⟨⟨_, rfl, by decide +kernel⟩, ⟨_, _, rfl, by decide +kernel⟩, ⟨_, _, rfl, by decide +kernel⟩, rfl, rfl, rfl⟩

theorem witness_DeliveryDataReadReturnsBytes_memory :
    ((delivering 1).desc 0).blocks[2 / 64]? = some 0 ∧ (delivering 1).readPayload 0 2 = 0x33 := by decide +kernel

theorem witness_DeliveryDataReadReturnsBytes :
    (∃ d rest, (delivering 1).delivery = d :: rest ∧ ((delivering 1).desc d).length = some 3 ∧
        (delivering 1).readPointer + 2 ≤ 3) ∧
      (delivering 2).readPointer + 1 = 3 ∧ 3 ≤ (delivering 3).readPointer ∧ State.reset.delivery = [] := 
  ⟨⟨_, _, rfl, by decide +kernel, by decide⟩, by decide, by decide, rfl⟩

theorem witness_SetGuaranteeWithinTheSum :
    (3 : BitVec 4).toNat = (3 : LinkId).val ∧ 128 < ({ State.reset with argumentA := 129 }).argumentA.toNat ∧
      ({ State.reset with argumentA := 128 }).argumentA.toNat + 0 ≤ 128 ∧ 128 < (128#16).toNat + 1 := by decide

theorem witness_CountersReadAndCleared :
    14 ≤ (14 : BitVec 4).toNat ∧ (13 : BitVec 4).toNat = (13 : Fin 14).val ∧ (0 : BitVec 4).toNat = (0 : Fin 14).val := by decide

theorem witness_BadLinkNumbersAndCodesRefused :
    4 ≤ (4 : BitVec 4).toNat ∧ 4 ≤ (15 : BitVec 4).toNat ∧ State.reset.staging = none := by decide

theorem witness_OpenParcelInClosed :
    (State.reset.le 0).session = .closed ∧ (State.reset.le 0).programmed.accept = false ∧
      ((State.reset.modLE 0 fun e => { e with programmed := { e.programmed with accept := true } }).le
        0).programmed.accept = true := by decide

theorem witness_OpenParcelInOpening :
    ((inState .opening).le 0).session = .opening ∧ ((inState .opening).le 0).latched.rank < (1 : BitVec 2).toNat ∧
      (0 : BitVec 2).toNat = ((inState .opening).le 0).latched.rank ∧
      (2 : BitVec 2).toNat < (((inState .opening).modLE 0 fun e => { e with latched := { e.latched with rank := 3 } }).le
        0).latched.rank := by decide

theorem witness_CloseParcelByState :
    (3 : Epoch) = ((inState .closing).le 0).epoch ∧ (4 : Epoch) ≠ ((inState .closing).le 0).epoch ∧
      ((retaining .open_).le 0).session = .open_ ∧ ((retaining .open_).le 0).epoch = 3 := by decide

theorem witness_DrainMovesOnByOrigin :
    ((inState .draining).le 0).session = .draining ∧ ((inState .draining).le 0).drainOrigin = some .host ∧
      (∀ d, ((inState .draining).desc d).link = some 0 → ((inState .draining).desc d).state ≠ .detached) ∧
      (((inState .draining).modLE 0 fun e => { e with drainOrigin := some .peer }).le 0).drainOrigin = some .peer := by decide +kernel

theorem witness_CharacterOutcome :
    (0x7FE#12).getLsbD 11 = false ∧ (0x800#12).getLsbD 11 = true ∧
      ((List.range 10).filter fun i => (0xC00#12).getLsbD (i + 1)).length % 2 = 1 ∧ (0xC00#12).getLsbD 9 = false ∧
      (0xA00#12).getLsbD 9 = true ∧ ((List.range 10).filter fun i => (0xA00#12).getLsbD (i + 1)).length % 2 = 1 ∧
      BitVec.ofNat 8 ((0xA00#12).toNat / 2 % 256) = 0 ∧ (0xB4A#12).getLsbD 9 = true ∧
      BitVec.ofNat 8 ((0xB4A#12).toNat / 2 % 256) = 0xA5 := by decide +kernel

theorem witness_CharactersInHunt :
    Quiet State.reset 0 ∧ (State.reset.lu 0).record.phase = .hunt ∧ (0xFFF#12).getLsbD 0 = true ∧
      (0x802#12).getLsbD 0 = false ∧ (0x802#12) ≠ 0 ∧ classify 0x402 = .faulted := ⟨⟨rfl, rfl, rfl⟩, by decide⟩

theorem witness_parcel_in_progress :
    Quiet (arriving .open_ 0) 0 ∧ ((arriving .open_ 0).lu 0).record.phase = .inParcel ∧
      ∀ d, ((arriving .open_ 0).lu 0).record.descriptor = some d → ((arriving .open_ 0).desc d).state = .assembling := 
  ⟨⟨rfl, rfl, rfl⟩, by decide +kernel⟩

theorem witness_DataBytesInAParcel_first_byte :
    ∃ check, Quiet (receiving .open_ { phase := .inParcel, check := 0xFFFF }) 0 ∧
      ((receiving .open_ { phase := .inParcel, check := 0xFFFF }).lu 0).record = { phase := .inParcel, check := check } ∧
      (0x38#8).toNat % 8 = 0 ∧ (0x39#8).toNat % 8 ≠ 0 ∧ (0x39#8).getLsbD 3 = true ∧
      (0x37#8).toNat % 8 = Kind.drop.value.toNat ∧ (0x37#8).getLsbD 3 = false := ⟨_, ⟨rfl, rfl, rfl⟩, rfl, by decide⟩

theorem witness_DataBytesInAParcel_control_header :
    ∃ f : Kind → Nat → State,
      (f = fun k c => receiving .open_
        { phase := .inParcel, count := c, kind := some (.named k), epoch := some 3, copy := some false
          storage := some .control }) ∧
      ∀ k ∈ [Kind.receipt, .open_, .grant], ∀ c, 1 ≤ c → c < k.headerLength → Quiet (f k c) 0 ∧
        ((f k c).lu 0).record.phase = .inParcel ∧ ((f k c).lu 0).record.kind = some (.named k) ∧
        ((f k c).lu 0).record.storage = some .control ∧ ((f k c).lu 0).record.count = c :=
  ⟨_, rfl, fun _ _ _ _ _ => ⟨⟨rfl, rfl, rfl⟩, rfl, rfl, rfl, rfl⟩⟩

theorem witness_DataBytesInAParcel_payload :
    ∃ d len a, ((receiving .open_ { storedRecord 0 with count := 5 }).lu 0).record.count < 3 + len ∧
      (storedRecord 0).kind = some (.named .data) ∧ (storedRecord 0).storage = some .storing ∧
      (storedRecord 0).descriptor = some d ∧ (storedRecord 0).length = some len ∧
      payloadAddress ((arriving .open_ 0).desc d).blocks (5 - 3) = some a ∧ (arriving .open_ 0).mem.wf := 
  ⟨0, 3, 2, by decide, rfl, rfl, rfl, rfl, by decide +kernel, by decide +kernel⟩

theorem witness_StorageDecision :
    Quiet (receiving .open_ lengthRecord) 0 ∧ ((receiving .open_ lengthRecord).lu 0).record = lengthRecord ∧
      lengthRecord.descriptor = none ∧
      (∃ r, (receiving .open_ lengthRecord).claim 0 240 (lengthRecord.fill 0 240) = some r) ∧
      ({ receiving .open_ lengthRecord with freeDescs := [] }).claim 0 240 (lengthRecord.fill 0 240) = none ∧
      ((receiving .opening lengthRecord).le 0).session = .opening :=
  ⟨⟨rfl, rfl, rfl⟩, rfl, rfl, Option.isSome_iff_exists.mp (by decide +kernel), rfl, rfl⟩

theorem witness_EopEndsAParcel :
    WholeParcel (storedRecord 0) ∧ ¬ WholeParcel { storedRecord 0 with check := 1 } ∧
      (∃ i, controlRow 0 dropRecord = some i) ∧ WholeParcel dropRecord ∧
      WholeParcel { storedRecord 0 with storage := some .refused, descriptor := none } ∧
      WholeParcel { storedRecord 0 with storage := some .unstored, descriptor := none } :=
  ⟨⟨rfl, .inl ⟨rfl, 3, rfl, by decide, by decide, rfl⟩⟩, fun h => absurd h.1 (by decide), ⟨_, rfl⟩,
    ⟨rfl, .inr (.inr (.inr ⟨.inr (.inr (.inr rfl)), rfl⟩))⟩, ⟨rfl, .inl ⟨rfl, 3, rfl, by decide, by decide, rfl⟩⟩,
    ⟨rfl, .inl ⟨rfl, 3, rfl, by decide, by decide, rfl⟩⟩⟩

theorem witness_ControlParcelOnTheLine :
    controlBytes (.receiveOpen 0 3 3 8) = some (0, [0x33, 0x38]) ∧ Quiet State.reset 0 ∧
      (State.reset.lu 0).record.phase = .hunt := ⟨by decide, ⟨rfl, rfl, rfl⟩, rfl⟩

theorem witness_LineLossAndGapExpiry :
    ((arriving .open_ 0).lu 0).lossOver = true ∧ ((arriving .open_ 0).lu 0).lineState = .up ∧
      ((arriving .open_ 0).lu 0).gapOver = true ∧ (State.reset.lu 0).lossOver = false ∧
      (State.reset.lu 0).gapOver = false ∧
      ((State.reset.modLU 0 fun u => { u with lossTimer := some 500 }).lu 0).lossOver = true ∧
      ((State.reset.modLU 0 fun u => { u with lossTimer := some 499 }).lu 0).lossOver = false ∧
      ((State.reset.modLU 0 fun u => { u with lossTimer := some 500 }).lu 0).lineState = .down := by decide

theorem witness_TransmitChoiceOrder :
    AtBoundary (filling State.reset) 0 ∧ (filling State.reset).choose 0 = .nothing ∧ ¬ AtBoundary State.reset 0 := 
  ⟨.inl rfl, by decide, fun h => h.elim (by decide) (fun h => absurd h.1 (by decide))⟩

theorem witness_ControlParcelContents :
    ∃ f : Pending → State, (f = fun p => filling ((inState .open_).modLE 0 fun e => { e with pending := p })) ∧
      AtBoundary (f {}) 0 ∧ (f { drop := true }).choose 0 = .drop ∧ (f { grant := true }).choose 0 = .grant ∧
      (f { closeAck := true }).choose 0 = .closeAck ∧ (f { receipt := true }).choose 0 = .receipt ∧
      (f { query := true }).choose 0 = .query ∧
      (filling ((inState .opening).modLE 0 fun e => { e with pending := { open_ := true } })).choose 0 = .open_ ∧
      (filling ((inState .closing).modLE 0 fun e => { e with pending := { close := true } })).choose 0 = .close := 
  ⟨_, rfl, .inl rfl, by decide⟩

theorem witness_DataParcelsSent :
    AtBoundary (filling submitting) 0 ∧ (submitting.desc 0).length = some 3 ∧
      (filling submitting).choose 0 = .firstSend 0 ∧ (submitting.desc 0).state = .submitted ∧
      (filling (after (.resendExpiry 0) (retaining .open_))).choose 0 = .resend 0 ∧
      ((retaining .open_).desc 0).epoch = some 3 ∧ ((retaining .open_).desc 0).ordinal = some 0 ∧
      ((retaining .open_).desc 0).resends = some 0 := ⟨.inl rfl, by decide +kernel⟩

theorem witness_TransmissionsEnd :
    (sending.lu 0).tx.phase = .parcel ∧ (sending.lu 0).tx.descriptor = some 0 ∧ (sending.desc 0).state = .retained ∧
      ((detached .discard).desc 0).state = .detached ∧ ((detached .discard).desc 0).outcome = some .discard ∧
      ((detached .delivered).desc 0).outcome ≠ some .discard ∧
      (((State.reset.modLink 0 (parcelStarted [] none)).modTx 0 fun t => { t with cut := true }).lu 0).tx.cut = true := by decide +kernel

theorem witness_ExpiriesBelowTheLimit :
    ((inState .opening).le 0).timer = some { mode := .control, duration := 200, count := 200 } ∧
      ((inState .closing).le 0).timer = some { mode := .control, duration := 200, count := 200 } ∧
      ((inState .opening).le 0).retryCount + 1 < ((inState .opening).le 0).latched.retryLimit ∧
      ((retaining .open_).le 0).timer = some { mode := .resend, duration := 200, count := 200 } ∧
      (((inState .open_).modLE 0 fun e => { e with holdTimer := some 10 }).le 0).holdOver = true ∧
      (∀ d ∈ ((retaining .open_).le 0).retention, ((retaining .open_).desc d).state = .retained) ∧
      (submitting.modLE 0 (fun e => { e with timer := some { mode := .query, duration := 200, count := 200 } }) |>.le
        0).timer.any LinkTimer.over = true ∧
      (State.reset.le 0).holdTimer = none := by decide +kernel

theorem witness_ArrivingDataByOffset_boundaries :
    ((arrivingBehind 0).le 0).classify 0 = .deliver ∧ ((arrivingBehind 0).le 0).classify 1 = .dup ∧
      ((arrivingBehind 0).le 0).classify 2 = .hold 2 ∧ ((arrivingBehind 0).le 0).classify 7 = .hold 7 ∧
      ((arrivingBehind 0).le 0).classify 8 = .outwin ∧ ((arrivingBehind 0).le 0).classify 55 = .outwin ∧
      ((arrivingBehind 0).le 0).classify 56 = .dup ∧ ((arrivingBehind 0).le 0).classify 63 = .dup := by decide +kernel

theorem witness_ReceiptsAndQueriesJudged :
    (State.reset.le 0).session = .closed ∧ ((inState .opening).le 0).session = .opening ∧
      ((retaining .open_).le 0).epoch = 3 ∧
      ((retaining .open_).le 0).retention.length < ((2 : Sys2Proof.Ordinal) - ((retaining .open_).le 0).oldest).toNat := by decide

theorem witness_links_in_order : LinksOk (inState .closing) ∧ CountersOk (inState .closing) := by
  constructor
  · intro n
    unfold LinkOk WindowOk ClosedOk RetryOk ModeOk DrainOk StoringOk LineOk ParamsOk RxOk
    refine ⟨?_, ?_, ?_, ?_, ?_, ?_, ?_, ?_⟩ <;> first | (revert n; decide +kernel) | (fin_cases n <;> exact ⟨trivial, by decide⟩)
  · unfold CountersOk; decide +kernel

theorem witness_lengths_and_ordinals :
    LengthsOk (stagingWith .open_ 1) ∧ LengthsOk (delivering 3) ∧ OrdinalsOk (retaining .open_) ∧
      OrdinalsOk (arrivingBehind 0) := by
  refine ⟨?_, ?_, ?_, ?_⟩ <;> first | (unfold LengthsOk; decide +kernel) | (unfold OrdinalsOk; decide +kernel)

theorem witness_ReceiverSamplesRxd :
    3 ≤ fastLine.divider ∧ fastLine.rx = { phase := .waiting, space := none } ∧
      (LineChar.control .sop).encode.getLsbD 0 = false ∧
      (Receiver.atReset false {}) =
        { phase := .waitMark, space := some { elapsed := 0, charTime := 12 * 16 } } ∧
      (fastLine.rxTick true false).rx.phase = .receiving 4 0 0 ∧ (0 : Nat) < 11 * 4 + 4 / 2 ∧
      11 * 4 + 4 / 2 ≤ 46 := by decide +kernel

theorem witness_TransmitterMovesOn :
    ¬ 12 * (State.reset.lu 0).tx.bitTime ≤ (State.reset.lu 0).tx.elapsed + 1 ∧ (State.reset.lu 0).tx.phase = .mark ∧
      (∃ c rest, ((((filling submitting).modLink 0 (parcelStarted [] none)).modTx 0 fun t =>
        { t with elapsed := 191 }).lu 0).tx.rest = c :: rest) ∧
      12 * (((filling submitting).modTx 0 fun t => { t with elapsed := 191 }).lu 0).tx.bitTime ≤ 191 + 1 ∧
      ((filling submitting).lu 0).tx.phase = .fill ∧ (3 : Nat) * 16 ≤ 50 ∧ 50 < (3 + 1) * 16 :=
  ⟨by decide, rfl, ⟨_, _, rfl⟩, by decide, rfl, by decide⟩

theorem witness_RegisterReadsShowTheirFields :
    State.reset.delivery = [] ∧ State.reset.completion = [] ∧ State.reset.staging = none ∧
      State.reset.freeBlocks.length ≤ 128 ∧ State.reset.used 0 ≤ 128 ∧
      (∃ c, (stagingWith .open_ 1).staging = some c ∧ c.length ≤ 240 ∧ c.writeCount ≤ 240) ∧
      (∃ d rest o f, (delivering 0).delivery = d :: rest ∧ ((delivering 0).desc d).length = some 3 ∧
        ((delivering 0).desc d).link = some 0 ∧ ((delivering 0).desc d).ordinal = some o ∧
        ((delivering 0).desc d).epoch = some f) ∧
      ∃ d rest, completing.completion = d :: rest ∧ (completing.desc d).tag = some 7 ∧
        (completing.desc d).resends = some 0 ∧ (completing.desc d).link = some 0 :=
  ⟨rfl, rfl, rfl, by decide +kernel, by decide +kernel, ⟨_, rfl, by decide, by decide⟩,
    ⟨0, [], 0, 3, rfl, by decide +kernel⟩, ⟨0, [], rfl, by decide +kernel⟩⟩

/-- Pool and ownership are in order. -/
def InOrder (s : State) : Prop := PoolOk s ∧ OwnersOk s

theorem inOrder_inState (st : SessionState) (h : st ≠ .closed) : InOrder (inState st) := by
  refine ⟨⟨?_, ?_, ?_⟩, ?_, ?_, ?_⟩
  · unfold BlocksOwned; cases st <;> first | exact absurd rfl h | decide +kernel
  · unfold FreeListed; cases st <;> first | exact absurd rfl h | decide +kernel
  · unfold DescriptorsClean; cases st <;> first | exact absurd rfl h | decide +kernel
  · unfold SharedOwns; cases st <;> first | exact absurd rfl h | decide +kernel
  · unfold LinkOwns; cases st <;> first | exact absurd rfl h | decide +kernel
  · unfold RecordOk; cases st <;> first | exact absurd rfl h | decide +kernel

theorem inOrder_retaining : InOrder (retaining .open_) := by
  refine ⟨⟨?_, ?_, ?_⟩, ?_, ?_, ?_⟩
  · unfold BlocksOwned; decide +kernel
  · unfold FreeListed; decide +kernel
  · unfold DescriptorsClean; decide +kernel
  · unfold SharedOwns; decide +kernel
  · unfold LinkOwns; decide +kernel
  · unfold RecordOk; decide +kernel

theorem inOrder_arriving : InOrder (arriving .open_ 0) := by
  refine ⟨⟨?_, ?_, ?_⟩, ?_, ?_, ?_⟩
  · unfold BlocksOwned; decide +kernel
  · unfold FreeListed; decide +kernel
  · unfold DescriptorsClean; decide +kernel
  · unfold SharedOwns; decide +kernel
  · unfold LinkOwns; decide +kernel
  · unfold RecordOk; decide +kernel

theorem inOrder_arrivingBehind : InOrder (arrivingBehind 1) := by
  refine ⟨⟨?_, ?_, ?_⟩, ?_, ?_, ?_⟩
  · unfold BlocksOwned; decide +kernel
  · unfold FreeListed; decide +kernel
  · unfold DescriptorsClean; decide +kernel
  · unfold SharedOwns; decide +kernel
  · unfold LinkOwns; decide +kernel
  · unfold RecordOk; decide +kernel

theorem inOrder_staging : InOrder (stagingWith .open_ 1) := by
  refine ⟨⟨?_, ?_, ?_⟩, ?_, ?_, ?_⟩
  · unfold BlocksOwned; decide +kernel
  · unfold FreeListed; decide +kernel
  · unfold DescriptorsClean; decide +kernel
  · unfold SharedOwns; decide +kernel
  · unfold LinkOwns; decide +kernel
  · unfold RecordOk; decide +kernel

theorem witness_StageDataStoresBytes :
    ∃ c, PoolOk (stagingWith .open_ 1) ∧ (stagingWith .open_ 1).mem.wf ∧ (stagingWith .open_ 1).staging = some c ∧
      c.writeCount + 1 < c.length ∧ payloadAddress ((stagingWith .open_ 1).desc c.descriptor).blocks c.writeCount = some 1 := 
  ⟨_, inOrder_staging.1, by decide +kernel, rfl, by decide, by decide +kernel⟩

theorem witness_session_commands :
    ∀ st : SessionState, st ≠ .closed → (0 : BitVec 4).toNat = (0 : LinkId).val ∧ ((inState st).le 0).session = st ∧
      PoolOk (inState st) ∧ OwnersOk (inState st) := 
  fun st h => ⟨rfl, rfl, (inOrder_inState st h).1, (inOrder_inState st h).2⟩

theorem witness_CloseDrainsOrAbandons :
    ((retaining .open_).le 0).retention ≠ [] ∧ PoolOk (retaining .open_) ∧ OwnersOk (retaining .open_) ∧
      ((inState .open_).le 0).submit = [] ∧ ((inState .open_).le 0).retention = [] ∧
      (inState .open_).hasDetached 0 = false := 
  ⟨by decide, inOrder_retaining.1, inOrder_retaining.2, by decide, by decide, by decide +kernel⟩

theorem witness_OpenParcelInLiveSession :
    ((inState .open_).le 0).session = .open_ ∧ (3 : Epoch) = ((inState .open_).le 0).epoch ∧
      (4 : Epoch) ≠ ((inState .open_).le 0).epoch ∧ PoolOk (inState .open_) ∧ OwnersOk (inState .open_) ∧
      ((inState .open_).le 0).latched.accept = false := 
  ⟨rfl, rfl, by decide, (inOrder_inState .open_ (by decide)).1, (inOrder_inState .open_ (by decide)).2, rfl⟩

theorem witness_BreakAndReturnToMark :
    ((inState .open_).lu 0).breakPresent = false ∧ ((inState .open_).lu 0).heldSpace = false ∧
      PoolOk (arriving .open_ 0) ∧ OwnersOk (arriving .open_ 0) ∧ ((arriving .open_ 0).lu 0).breakPresent = false ∧
      ((arriving .open_ 0).lu 0).rx.space = none ∧ ((after .pinReset atEnds).lu 0).rx.lost = some 0xC00 ∧
      (((inState .open_).modLU 0 fun u => { u with heldSpace := true, breakPresent := true }).lu 0).heldSpace = true := 
  ⟨rfl, rfl, inOrder_arriving.1, inOrder_arriving.2, rfl, rfl, by decide, rfl⟩

theorem witness_ResetsReturnLineUnits :
    (State.reset.rxd.get 0).level = true ∧
      (({ State.reset with rxd := State.reset.rxd.set 0 { level := false } }).rxd.get 0).level = false ∧
      (atEnds.lu 0).rx.phase = .receiving 16 (11 * 16 + 16 / 2) 0xC00 := ⟨rfl, rfl, rfl⟩

theorem witness_ExhaustionEndsTheSession_control_and_query :
    ∃ f : State → State, (f = fun s => s.modLE 0 fun e => { e with retryCount := 5 }) ∧
      ∀ s ∈ [f (inState .opening), f (inState .closing),
          f ((inState .open_).modLE 0 fun e => { e with timer := some { mode := .query, duration := 200, count := 200 } })],
        (s.le 0).latched.retryLimit ≤ (s.le 0).retryCount + 1 ∧ (s.le 0).timer.any LinkTimer.over = true :=
  ⟨_, rfl, by decide⟩

theorem witness_ExhaustionEndsTheSession :
    ∃ s : State, s = ((retaining .open_).modLE 0 fun e => { e with latched := { e.latched with retryLimit := 1 } }) ∧
      (s.le 0).latched.retryLimit ≤ (s.le 0).retryCount + 1 ∧ 
      (s.le 0).timer = some { mode := .resend, duration := 200, count := 200 } ∧ PoolOk (retaining .open_) ∧ OwnersOk (retaining .open_) := ⟨_, rfl, by decide, by decide, inOrder_retaining.1, inOrder_retaining.2⟩

theorem witness_ArrivingDataByOffset :
    ∃ d o, ((arrivingBehind 1).lu 0).record.descriptor = some d ∧ ((arrivingBehind 1).lu 0).record.storage = some .storing ∧
      ((arrivingBehind 1).le 0).session = .open_ ∧ ((arrivingBehind 1).desc d).ordinal = some o ∧
      PoolOk (arrivingBehind 1) ∧ OwnersOk (arrivingBehind 1) ∧ ((arrivingBehind 1).le 0).window.length = 7 ∧
      ((arrivingBehind 1).desc d).epoch = some ((arrivingBehind 1).le 0).epoch := 
  ⟨0, 1, rfl, rfl, rfl, by decide +kernel, inOrder_arrivingBehind.1, inOrder_arrivingBehind.2, by decide,
    by decide +kernel⟩

theorem witness_ValidReceiptInParts :
    PoolOk (retaining .open_) ∧ OwnersOk (retaining .open_) ∧ ((retaining .open_).le 0).session = .open_ ∧
      ((1 : Sys2Proof.Ordinal) - ((retaining .open_).le 0).oldest).toNat ≤ ((retaining .open_).le 0).retention.length := 
  ⟨inOrder_retaining.1, inOrder_retaining.2, rfl, by decide⟩

theorem witness_steps :
    PoolOk (inState .open_) ∧ OwnersOk (inState .open_) ∧ WatermarkOk (inState .open_) ∧ (inState .open_).mem.wf ∧
      GuaranteesOk (inState .open_) ∧ ∃ t, step (inState .open_) = .next t := 
  ⟨(inOrder_inState .open_ (by decide)).1, (inOrder_inState .open_ (by decide)).2, by unfold WatermarkOk; decide +kernel,
    by decide +kernel, by unfold GuaranteesOk; decide +kernel, _, rfl⟩

end Sys2Proof.Tests
end

section
/-! The family of chapter 1, parcel memory, blocks and descriptors: claims, credit and the watermark, SET GUARANTEE, the resets. -/

namespace Sys2Proof.Machine
open Sys2Proof.Safety

/-! ## The front command (R11, R69) -/

/-- Settles O1: the step's match on the queue takes its first branch. -/
theorem stepRunsFrontCommand : Obligations.StepRunsFrontCommand := fun _ _ _ => rfl

/-! ## The grantable amounts (R10, R12, R14) -/

/-- The links other than `n`, as the model and as the statements list them. -/
theorem filter_allLinks_ne (n : LinkId) :
    allLinks.filter (· != n) = (List.finRange 4).filter (fun m => decide (m ≠ n)) := by
  refine List.filter_congr fun m _ => ?_
  simp [bne, Bool.beq_eq_decide_eq]

/-- The descriptor table as a list is the list of descriptors 0 to 63. -/
theorem descs_toList_eq_map (s : State) : s.descs.toList = (List.finRange 64).map s.desc := by
  apply List.ext_getElem
  · simp
  · intro i _ _
    simp [State.desc, Vector.get_eq_getElem]

/-- A sum over the entries that meet a test is the sum over all of them with 0 where the test fails. -/
theorem sum_map_filter_eq_sum_ite {α : Type} (p : α → Bool) (f : α → Nat) (l : List α) :
    ((l.filter p).map f).sum = (l.map fun a => if p a = true then f a else 0).sum := by
  induction l with
  | nil => rfl
  | cons a l ih => by_cases h : p a = true <;> simp [h, ih]

/-- *used_L* descriptor by descriptor (R12). -/
theorem used_eq_sum (s : State) (n : LinkId) :
    s.used n = ((List.finRange 64).map fun d =>
      if (s.desc d).link = some n ∧ (s.desc d).state ≠ .free ∧ (s.desc d).state ≠ .completed then
        (s.desc d).blocks.length else 0).sum := by
  unfold State.used
  rw [sum_map_filter_eq_sum_ite, descs_toList_eq_map, List.map_map]
  simp [Function.comp_def, and_assoc]

/-- A pool of FREE descriptors is not used by any link (R12). -/
theorem used_eq_zero_of_all_free (s : State) (n : LinkId) (h : ∀ d, (s.desc d).state = .free) : s.used n = 0 := by
  rw [used_eq_sum]
  simp [h]

/-- The outstanding reserves of the three other links (R10). -/
theorem othersReserve_eq_sum (s : State) (n : LinkId) :
    s.othersReserve n =
      (((List.finRange 4).filter (fun m => m ≠ n)).map fun m => (s.link m).guarantee - s.used m).sum := by
  unfold State.othersReserve
  rw [filter_allLinks_ne]
  rfl

/-- A claim is granted where a descriptor is free and its blocks are grantable, for a claim of at least one block (R9,
R10, R14). -/
theorem claimGranted_iff (s : State) (n : LinkId) (len : Nat) (hlen : 1 ≤ len) :
    s.claimGranted n len = true ↔ s.freeDescs ≠ [] ∧ (len + 63) / 64 ≤ s.grantableBlocks n := by
  have hblocks : blocksFor len = (len + 63) / 64 := rfl
  simp only [State.claimGranted, State.grantableBlocks, hblocks, Bool.and_eq_true, Bool.not_eq_true',
    List.isEmpty_eq_false_iff, decide_eq_true_eq]
  have : 1 ≤ (len + 63) / 64 := by omega
  constructor <;> rintro ⟨hd, hb⟩ <;> exact ⟨hd, by omega⟩

/-- A claim answers a descriptor exactly where it is granted (R9). -/
theorem claim_isSome_iff (s : State) (n : LinkId) (len : Nat) (fill : Descriptor) :
    (s.claim n len fill).isSome = true ↔ s.claimGranted n len = true := by
  unfold State.claim
  split
  · rename_i hnil
    simp [State.claimGranted, hnil]
  · split <;> simp_all

/-- Live sessions are those of OPEN, DRAINING and CLOSING. -/
theorem live_iff (st : SessionState) : st.live = true ↔ st = .open_ ∨ st = .draining ∨ st = .closing := by
  cases st <;> simp [SessionState.live]

/-- When a window update is due (R17). -/
theorem updateDue_iff (s : State) (n : LinkId) :
    s.updateDue n = true ↔ (s.le n).session.live = true ∧ (s.le n).advertised = 0 ∧ 0 < s.credit n := by
  simp [State.updateDue, and_assoc]

/-! ## A granted claim (R2, R6, R8, R18) -/

/-- A claim disarms the watermark condition and Sets POOL_LOW where it takes an armed pool below the watermark (R18). -/
theorem afterClaim_armed_globalEvents (s : State) :
    if s.freeBlocks.length < s.watermark ∧ s.armed = true then
      s.afterClaim.armed = false ∧ s.afterClaim.globalEvents = s.globalEvents ||| 0x04
    else s.afterClaim.armed = s.armed ∧ s.afterClaim.globalEvents = s.globalEvents := by
  unfold State.afterClaim
  split <;> exact ⟨rfl, rfl⟩

theorem afterClaim_frame (s : State) :
    { s.afterClaim with armed := s.armed, globalEvents := s.globalEvents } = s := by
  unfold State.afterClaim
  split <;> rfl

/-- A granted claim's free descriptor and blocks taken and the descriptor filled, the watermark condition not yet tested
(R2, R6, R8). -/
def State.takeForClaim (d : DescId) (rest : List DescId) (len : Nat) (fill : Descriptor) (s : State) : State :=
  { s with freeDescs := rest, freeBlocks := s.freeBlocks.drop (blocksFor len) }.setDesc d
    { fill with blocks := s.freeBlocks.take (blocksFor len) }

/-- The state a granted claim answers. -/
theorem claim_eq_some {s t : State} {n : LinkId} {len : Nat} {fill : Descriptor} {d : DescId}
    (h : s.claim n len fill = some (d, t)) :
    ∃ rest, s.freeDescs = d :: rest ∧ t = (s.takeForClaim d rest len fill).afterClaim := by
  unfold State.claim at h
  split at h
  · exact absurd h (by simp)
  · rename_i d' rest hfree
    split at h
    · simp only [Option.some.injEq, Prod.mk.injEq] at h
      obtain ⟨rfl, rfl⟩ := h
      exact ⟨rest, hfree, rfl⟩
    · exact absurd h (by simp)

/-- Settles O17: the grantable amounts term by term, and a granted claim by the one state it answers. -/
theorem claimsAndCreditFollowTheGrantableAmounts : Obligations.ClaimsAndCreditFollowTheGrantableAmounts := by
  refine ⟨fun s n => ?_, fun s t n len fill d h => ?_⟩
  · intro grantable
    have hgrantable : s.grantableBlocks n = grantable := by
      simp only [grantable, State.grantableBlocks, othersReserve_eq_sum]
    refine ⟨fun len fill hlen => ?_, ?_, used_eq_sum s n, ?_⟩
    · rw [claim_isSome_iff, claimGranted_iff s n len hlen, hgrantable]
    · rw [← hgrantable, ← List.countP_eq_length_filter]; rfl
    · rw [updateDue_iff, live_iff]
  · obtain ⟨-, hdescs, -, -, -, hothers, -, -⟩ := State.claim_spec h
    obtain ⟨rest, -, rfl⟩ := claim_eq_some h
    have harmed := afterClaim_armed_globalEvents (s.takeForClaim d rest len fill)
    have hframe := afterClaim_frame (s.takeForClaim d rest len fill)
    refine ⟨hdescs, by simp [State.takeForClaim, blocksFor, Config.blockBytes],
      by simp [State.takeForClaim, blocksFor, Config.blockBytes], hothers, ?_, ?_⟩
    · rw [State.freeBlocks_afterClaim]
      exact harmed
    · exact congrArg (fun u : State =>
        { u with descs := s.descs, freeDescs := s.freeDescs, freeBlocks := s.freeBlocks }) hframe

/-! ## SET GUARANTEE (R13) -/

theorem linkOf_eq_some {number : BitVec 4} {n : LinkId} (h : number.toNat = n.val) : linkOf number = some n := by
  have hlt : number.toNat < 4 := h ▸ n.isLt
  simp only [linkOf, dif_pos hlt, Option.some.injEq]
  exact Fin.ext h

/-- The sum of the guarantees that SET GUARANTEE tests (R13). -/
theorem guaranteeSum_eq (s : State) (n : LinkId) (v : Nat) :
    s.guaranteeSum n v =
      v + (((List.finRange 4).filter (fun m => m ≠ n)).map fun m => (s.link m).guarantee).sum := by
  unfold State.guaranteeSum
  rw [filter_allLinks_ne]

theorem used_reevaluate (s : State) (n : LinkId) : s.reevaluate.used n = s.used n := rfl

/-- A re-evaluation makes a receipt pending at most, so that what the grantable amounts and the credit rest on stays. -/
theorem guarantee_reevaluate (s : State) (n : LinkId) : (s.reevaluate.link n).guarantee = (s.link n).guarantee := by
  rw [State.link_reevaluate]; split <;> rfl

theorem othersReserve_reevaluate (s : State) (n : LinkId) : s.reevaluate.othersReserve n = s.othersReserve n := by
  simp only [othersReserve_eq_sum, guarantee_reevaluate, used_reevaluate]

theorem credit_reevaluate (s : State) (n : LinkId) : s.reevaluate.credit n = s.credit n := by
  have hheld : (s.reevaluate.le n).heldCount = (s.le n).heldCount := by
    unfold State.le; rw [State.link_reevaluate]; split <;> rfl
  simp only [State.credit, State.grantableBlocks, State.grantableDescs, hheld, othersReserve_reevaluate,
    State.freeBlocks_reevaluate, State.freeDescs_reevaluate]

/-- A re-evaluation leaves due what was due: the RECEIPT flag is no part of the condition (R17). -/
theorem updateDue_reevaluate (s : State) (n : LinkId) : s.reevaluate.updateDue n = s.updateDue n := by
  have hsession : (s.reevaluate.le n).session = (s.le n).session := by
    unfold State.le; rw [State.link_reevaluate]; split <;> rfl
  have hadvertised : (s.reevaluate.le n).advertised = (s.le n).advertised := by
    unfold State.le; rw [State.link_reevaluate]; split <;> rfl
  simp only [State.updateDue, hsession, hadvertised, credit_reevaluate]

theorem updateDue_setResult (s : State) (c : BitVec 4) (r : ResultCode) (n : LinkId) :
    (s.setResult c r).updateDue n = s.updateDue n := rfl

/-- Settles O23: the two tests of R13, and the re-evaluation of R17 on the state with the new guarantee. -/
theorem setGuaranteeWithinTheSum : Obligations.SetGuaranteeWithinTheSum := by
  intro link n s hlink v others
  have hexec : exec (.setGuarantee link) s = .next (s.setGuarantee n) := by
    simp only [exec, execSetGuarantee, linkOf_eq_some hlink]
  have hsum : s.guaranteeSum n v = v + others := guaranteeSum_eq s n v
  refine ⟨fun hbad => ?_, fun hv hfits => ⟨_, hexec, ?_⟩⟩
  · have hrefused : ¬ (s.argumentA.toNat ≤ 128 ∧ s.guaranteeSum n s.argumentA.toNat ≤ 128) := by
      change ¬ (v ≤ 128 ∧ s.guaranteeSum n v ≤ 128)
      omega
    rw [hexec, State.setGuarantee, if_neg hrefused]
    rfl
  · have htaken : s.setGuarantee n =
        ((s.modLink n fun l => { l with guarantee := v }).reevaluate).setResult 5 .done :=
      if_pos ⟨hv, hsum ▸ hfits⟩
    rw [htaken]
    refine ⟨fun m => ?_, rfl, rfl, rfl⟩
    rw [updateDue_setResult, updateDue_reevaluate, State.link_setResult, State.link_reevaluate, State.link_modLink]
    by_cases hm : m = n
    · subst hm; simp
    · simp [hm]

/-! ## POOL WATERMARK (R19) -/

theorem clamp_zero (hi v : Nat) : clamp 0 hi v = if hi < v then hi else v := by
  unfold clamp; split <;> omega

/-- Settles O15: the three branches of the comparison. -/
theorem watermarkWriteComparesAtOnce : Obligations.WatermarkWriteComparesAtOnce := by
  intro w s v
  have hexec : exec (.poolWatermarkWrite w) s = .next (s.writeWatermark v) := by
    simp only [exec, execPoolWatermarkWrite, clamp_zero, v]
  rw [hexec]
  unfold State.writeWatermark
  refine ⟨fun hreached => ?_, fun hbelow harmed => ?_, fun hbelow hdisarmed => ?_⟩
  · rw [if_pos hreached]
  · rw [if_neg (Nat.not_le.mpr hbelow), if_pos harmed]; rfl
  · rw [if_neg (Nat.not_le.mpr hbelow), hdisarmed]; rfl

/-! ## The resets (R20) -/

/-- A device-wide reset leaves every descriptor FREE with every other field absent (R20). -/
theorem desc_deviceWide (s : State) (d : DescId) : s.deviceWide.desc d = {} := by
  simp [State.desc, State.deviceWide, State.reset, Vector.get_eq_getElem]

theorem link_deviceWide (s : State) (n : LinkId) :
    s.deviceWide.link n = (s.link n).atReset (s.rxd.get n).level := Quad.get_map _ _ _

/-- Settles O5: both resets answer the device-wide reset, but for the result word and the reset cause. -/
theorem resetsFreeThePool : Obligations.ResetsFreeThePool := by
  intro c s hc
  have hfree : ∀ n, s.deviceWide.used n = 0 ∧ (s.deviceWide.link n).guarantee = 0 := fun n =>
    ⟨used_eq_zero_of_all_free _ _ fun d => by rw [desc_deviceWide], by rw [link_deviceWide]; rfl⟩
  have hline : ∀ n, (s.deviceWide.lu n).record = {} ∧ (s.deviceWide.lu n).tx.descriptor = none := fun n => by
    unfold State.lu; rw [link_deviceWide]; exact ⟨rfl, rfl⟩
  have hdesc := desc_deviceWide s
  rcases hc with rfl | ⟨l, rfl⟩
  · exact ⟨_, rfl, hdesc, rfl, rfl, hfree, rfl, rfl, rfl, rfl, rfl, rfl, rfl, hline⟩
  · exact ⟨_, rfl, hdesc, rfl, rfl, hfree, rfl, rfl, rfl, rfl, rfl, rfl, rfl, hline⟩

end Sys2Proof.Machine
end

section
/-! The family of chapter 1: what the premises about ownership leave open, and the step statements that fail by it. -/

namespace Sys2Proof.Machine
open Sys2Proof.Safety

/-! ## A staging context that names another link than its descriptor's

`SharedOwns` ties a staging context to a STAGING descriptor only where the context names the descriptor's own link, so that it
admits a context that names another link, beside a descriptor of any state. CANCEL, which releases the descriptor of the
context (R165), then takes a DELIVERED one away from the delivery queue. The gap is in the premises: BEGIN opens a context
only with the link that its claim writes into the descriptor (R160), and premises that say so (the context's descriptor is
STAGING and names the context's link) would leave this state out. -/

/-- A release leaves a FREE descriptor (R7). -/
theorem desc_releaseToFree_same (d : DescId) (s : State) (h : PoolOk s) : (s.releaseToFree d).desc d = {} := by
  obtain ⟨-, -, hclean, -⟩ := h
  unfold State.releaseToFree
  split
  · rename_i hfree
    exact hclean d hfree
  · simp

/-- CANCEL frees the descriptor of the staging context, whatever that descriptor's state is, and leaves the delivery queue
and its read pointer as they are (R165). -/
theorem cancel_frees_staged {s : State} {c : Staging} (link : BitVec 4) (hpool : PoolOk s) (hc : s.staging = some c) :
    ∃ t, exec (.cancel link) s = .next t ∧ t.desc c.descriptor = {} ∧ t.delivery = s.delivery ∧
      t.readPointer = s.readPointer := by
  refine ⟨(({ s with staging := none }.releaseToFree c.descriptor).setResult 8 .done), ?_, ?_, ?_, ?_⟩
  · simp only [exec, execCancel, hc]
  · exact desc_releaseToFree_same _ _ (PoolOk.congr hpool rfl rfl rfl)
  · simp
  · simp

/-- A DELIVERED parcel of link 0 with one payload byte, in block 0. -/
def deliveredByte : Descriptor :=
  { state := .delivered, link := some 0, direction := some .inbound, length := some 1, blocks := [0] }

/-- The part with that parcel in the delivery queue, its byte read, a staging context that names descriptor 0 but link 1, and
CANCEL in front. -/
def strayStaging : State :=
  { State.reset with
    pending := [.cancel 0]
    descs := State.reset.descs.set 0 deliveredByte
    freeDescs := (List.finRange 64).tail
    freeBlocks := (List.finRange 128).tail
    delivery := [0]
    readPointer := 1
    staging := some { link := 1, length := 1, tag := 0, descriptor := 0, writeCount := 0 } }

theorem desc_strayStaging (d : DescId) : strayStaging.desc d = if d = 0 then deliveredByte else {} := by
  have hset := State.desc_setDesc 0 d deliveredByte State.reset
  have hreset : State.reset.desc d = {} := by simp [State.desc, State.reset, Vector.get_eq_getElem]
  rw [hreset] at hset
  exact hset

theorem link_strayStaging (n : LinkId) : strayStaging.link n = Link.reset := by
  fin_cases n <;> rfl

theorem strayStaging_poolOk : PoolOk strayStaging := by
  refine ⟨?_, ⟨by decide, fun d => ?_⟩, fun d => ?_, fun d => ?_⟩
  · unfold BlocksOwned; decide +kernel
  · have hmem : d ∈ strayStaging.freeDescs ↔ d ≠ 0 := by revert d; decide
    rw [hmem, desc_strayStaging]
    by_cases h : d = 0 <;> simp [h, deliveredByte]
  · rw [desc_strayStaging]
    by_cases h : d = 0 <;> simp [h, deliveredByte]
  · rw [desc_strayStaging]
    by_cases h : d = 0 <;> simp [h, deliveredByte]

theorem strayStaging_sharedOwns : SharedOwns strayStaging := by
  refine ⟨by decide, by decide, fun d => ?_⟩
  rw [desc_strayStaging]
  by_cases h : d = 0 <;> simp [h, strayStaging, State.reset, deliveredByte]

theorem strayStaging_linkOwns (n : LinkId) : LinkOwns strayStaging n := by
  unfold LinkOwns State.le State.lu State.isOnLine
  rw [link_strayStaging]
  refine ⟨by decide, by decide, by decide, fun d => ?_⟩
  rw [desc_strayStaging]
  by_cases h : d = 0 <;>
    simp [h, deliveredByte, Link.reset, LinkEngine.reset, LineUnit.reset, emptyWindow]

theorem recordOk_reset : RecordOk {} := ⟨fun _ => rfl, fun _ => rfl, by simp, by simp⟩

theorem strayStaging_ownersOk : OwnersOk strayStaging := by
  refine ⟨strayStaging_sharedOwns, strayStaging_linkOwns, fun n => ?_⟩
  unfold State.lu
  rw [link_strayStaging]
  exact recordOk_reset

theorem strayStaging_watermarkOk : WatermarkOk strayStaging := by
  unfold WatermarkOk; decide +kernel

theorem strayStaging_lengthsOk : LengthsOk strayStaging := by
  refine ⟨fun d => ?_, ?_, ?_⟩
  · rw [desc_strayStaging]
    by_cases h : d = 0 <;> simp [h, deliveredByte, Descriptor.bytes]
  · intro c hc
    obtain rfl : c = { link := 1, length := 1, tag := 0, descriptor := 0, writeCount := 0 } := by
      simpa [strayStaging] using hc
    rw [desc_strayStaging]
    exact ⟨rfl, by decide⟩
  · show 1 ≤ (strayStaging.desc 0).bytes
    rw [desc_strayStaging]
    exact Nat.le_refl 1

theorem paramsOk_reset : ParamsOk Params.reset := by unfold ParamsOk; decide

theorem linkOk_reset : LinkOk Link.reset := by
  refine ⟨?window, ?closed, ⟨by decide, paramsOk_reset, paramsOk_reset⟩, ?mode, ?drain, ?storing, ?line,
    trivial, by simp [Link.reset, LineUnit.reset]⟩
  case window => unfold WindowOk; decide
  case closed => unfold ClosedOk; decide
  case mode => unfold ModeOk; decide
  case drain => unfold DrainOk; decide
  case storing => unfold StoringOk; decide
  case line => unfold LineOk; decide

theorem strayStaging_linksOk : LinksOk strayStaging := fun n => link_strayStaging n ▸ linkOk_reset

/-- CANCEL on that state frees the parcel that stands in the delivery queue, its byte still read. -/
theorem step_strayStaging :
    ∃ t, step strayStaging = .next t ∧ t.desc 0 = {} ∧ t.delivery = [0] ∧ t.readPointer = 1 :=
  cancel_frees_staged (s := { strayStaging with pending := [] }) 0
    (PoolOk.congr strayStaging_poolOk rfl rfl rfl) rfl

/-- Refutes O56: CANCEL frees the parcel at the head of the delivery queue, so that the read pointer stands past the length
of the queue's head. -/
theorem not_everyStepKeepsThePool : ¬ Obligations.EveryStepKeepsThePool := by
  intro h
  obtain ⟨t, hstep, hdesc, hdelivery, hpointer⟩ := step_strayStaging
  obtain ⟨-, -, -, -, -, hread⟩ := h strayStaging t strayStaging_poolOk strayStaging_ownersOk
    strayStaging_watermarkOk (by decide) strayStaging_lengthsOk hstep
  rw [hdelivery, hpointer] at hread
  simp [hdesc, Descriptor.bytes] at hread

/-- Refutes O57: CANCEL frees a parcel that the delivery queue still holds. -/
theorem not_everyStepKeepsOwnership : ¬ Obligations.EveryStepKeepsOwnership := by
  intro h
  obtain ⟨t, hstep, hdesc, hdelivery, -⟩ := step_strayStaging
  obtain ⟨⟨-, -, hshared⟩, -⟩ := h strayStaging t strayStaging_poolOk strayStaging_ownersOk
    strayStaging_linksOk hstep
  obtain ⟨hqueued, -⟩ := hshared 0
  simp [hdelivery, hdesc] at hqueued

end Sys2Proof.Machine
end

section
/-! The family of chapter 1: every step keeps guarantees and counters in range. -/

namespace Sys2Proof.Machine
open Sys2Proof.Safety

/-! ## Guarantees and counters stay in range (R13, R192)

Every operation that the commands share keeps `StatsOk`, shown in the order of the model's files; each command's meaning is
then a composition of them. -/

/-- The guarantees' sum and every counter are in range (R13, R192). -/
def StatsOk (s : State) : Prop := GuaranteesOk s ∧ CountersOk s

/-- A condition holds of the next state, if there is one. -/
def Answers (P : State → Prop) : Host.Outcome State Fault Refusal → Prop
  | .next t => P t
  | .fault _ => True
  | .refused _ => True

namespace StatsOk

/-! ### What the ranges depend on -/

/-- The guarantees as they were and the counters in range. -/
theorem of_links {s t : State} (h : StatsOk s) (hguarantee : ∀ n, (t.link n).guarantee = (s.link n).guarantee)
    (hcounters : ∀ n c, (t.link n).counters.get c ≤ 65535) : StatsOk t := by
  refine ⟨?_, hcounters⟩
  have hsum : (allLinks.map fun n => (t.link n).guarantee) = allLinks.map fun n => (s.link n).guarantee :=
    List.map_congr_left fun n _ => hguarantee n
  unfold GuaranteesOk
  rw [hsum]
  exact h.1

theorem congr {s t : State} (h : StatsOk s) (hlinks : t.links = s.links) : StatsOk t := by
  have hlink : ∀ n, t.link n = s.link n := fun n => by unfold State.link; rw [hlinks]
  exact h.of_links (fun n => by rw [hlink]) fun n c => by rw [hlink]; exact h.2 n c

/-- A change of one link that keeps its guarantee and leaves its counters in range. -/
theorem modLink_of {s : State} (h : StatsOk s) (n : LinkId) (f : Link → Link)
    (hguarantee : (f (s.link n)).guarantee = (s.link n).guarantee)
    (hcounters : ∀ c, (f (s.link n)).counters.get c ≤ 65535) : StatsOk (s.modLink n f) := by
  refine h.of_links (fun m => ?_) fun m c => ?_ <;> rw [State.link_modLink] <;> split
  · rename_i hm; rw [hguarantee, hm]
  · rfl
  · exact hcounters c
  · exact h.2 m c

/-- A fold of changes that each keep the ranges. -/
theorem foldl {α : Type} {f : State → α → State} (hf : ∀ s a, StatsOk s → StatsOk (f s a)) (l : List α) {s : State}
    (h : StatsOk s) : StatsOk (l.foldl f s) := by
  induction l generalizing s with
  | nil => exact h
  | cons a l ih => exact ih (hf s a h)

variable {s : State} (h : StatsOk s)
include h

/-! ### Links, flags and counters -/

theorem modLE (n : LinkId) (f : LinkEngine → LinkEngine) : StatsOk (s.modLE n f) := h.modLink_of n _ rfl (h.2 n)

theorem modLU (n : LinkId) (f : LineUnit → LineUnit) : StatsOk (s.modLU n f) := h.modLink_of n _ rfl (h.2 n)

theorem setEvent (n : LinkId) (e : LinkEvent) : StatsOk (s.setEvent n e) := h.modLink_of n _ rfl (h.2 n)

theorem clearEvents (n : LinkId) (ones : BitVec 7) : StatsOk (s.clearEvents n ones) := h.modLink_of n _ rfl (h.2 n)

theorem setGlobal (e : GlobalEvent) : StatsOk (s.setGlobal e) := h.congr rfl

theorem setResult (c : BitVec 4) (r : ResultCode) : StatsOk (s.setResult c r) := h.congr rfl

theorem driveData (w : Word) : StatsOk (s.driveData w) := h.congr rfl

theorem makeReceipt (n : LinkId) : StatsOk (s.makeReceipt n) := h.modLE n _

theorem makeDrop (n : LinkId) (e : Epoch) : StatsOk (s.makeDrop n e) := h.modLE n _

/-- A link's counters with one of them set to a value in range. -/
theorem counters_set_le (n : LinkId) (k : Fin 14) {v : Nat} (hv : v ≤ 65535) (c : Fin 14) :
    ((s.link n).counters.set k v).get c ≤ 65535 := by
  rw [Vector.get_eq_getElem, Vector.getElem_set]
  split
  · exact hv
  · exact h.2 n c

/-- One occurrence takes a counter to 65,535 at most (R192). -/
theorem bump (n : LinkId) (c : Counter) : StatsOk (s.bump n c) :=
  h.modLink_of n _ rfl (h.counters_set_le n c.number (Nat.min_le_left _ _))

theorem setHalf (n : LinkId) : StatsOk (s.setHalf n) := h.modLink_of n _ rfl (h.2 n)

theorem count (n : LinkId) (c : Counter) : StatsOk (s.count n c) := by
  unfold State.count
  split
  · exact ((h.bump n c).setHalf n).setGlobal _
  · exact h.bump n c

theorem reportDrop (n : LinkId) (cause : DropCause) : StatsOk (s.reportDrop n cause) := h.count n _

/-! ### The pool -/

theorem setDesc (d : DescId) (r : Descriptor) : StatsOk (s.setDesc d r) := h.congr rfl

theorem modDesc (d : DescId) (f : Descriptor → Descriptor) : StatsOk (s.modDesc d f) :=
  h.congr (State.links_modDesc d f s)

theorem reevaluate : StatsOk s.reevaluate := by
  refine h.of_links (fun n => guarantee_reevaluate s n) fun n c => ?_
  rw [State.link_reevaluate]
  split <;> exact h.2 n c

theorem claim {n : LinkId} {len : Nat} {fill : Descriptor} {d : DescId} {t : State}
    (hclaim : s.claim n len fill = some (d, t)) : StatsOk t := by
  obtain ⟨-, -, -, -, -, -, hlinks, -⟩ := State.claim_spec hclaim
  exact h.congr hlinks

theorem rearm : StatsOk s.rearm := by
  unfold State.rearm
  split
  · exact h.congr rfl
  · exact h

theorem releaseToFree (d : DescId) : StatsOk (s.releaseToFree d) := by
  unfold State.releaseToFree
  split
  · exact h
  · exact StatsOk.reevaluate (StatsOk.rearm (h.congr rfl))

theorem releaseBlocks (d : DescId) : StatsOk (s.releaseBlocks d) := by
  unfold State.releaseBlocks
  split
  · exact h
  · exact StatsOk.reevaluate (StatsOk.rearm (h.congr rfl))

theorem writePayload (d : DescId) (i : Nat) (v : Byte) : StatsOk (s.writePayload d i v) := by
  unfold State.writePayload
  split
  · exact h.congr rfl
  · exact h

/-! ### Completion -/

theorem settle (reporting : Bool) (d : DescId) : StatsOk (s.settle reporting d) := by
  unfold State.settle
  split
  · exact h.releaseBlocks d
  · exact h.releaseToFree d

theorem appendCompletion (d : DescId) : StatsOk (s.appendCompletion d) := h.congr (State.links_appendCompletion d s)

theorem completeAll (reporting : Bool) (ds : List DescId) : StatsOk (s.completeAll reporting ds) := by
  have released := StatsOk.foldl (fun _ d h => StatsOk.settle h reporting d) (ascending ds) h
  unfold State.completeAll
  split
  · exact StatsOk.foldl (fun _ d h => StatsOk.appendCompletion h d) ds released
  · exact released

theorem completeDetached (n : LinkId) (d : DescId) : StatsOk (s.completeDetached n d) := by
  unfold State.completeDetached
  split
  · exact h.releaseToFree d
  · exact h.completeAll _ _

/-! ### Sessions -/

theorem setOutcome (o : ParcelOutcome) (d : DescId) : StatsOk (s.setOutcome o d) := h.modDesc d _

theorem detach (o : ParcelOutcome) (d : DescId) : StatsOk (s.detach o d) := h.modDesc d _

theorem endSession (n : LinkId) (cause : EndCause) (keep : Keep) : StatsOk (s.endSession n cause keep) := by
  have ended := (h.modLE n (LinkEngine.sessionEnd cause keep)).modLU n LineUnit.sessionEnd
  unfold State.endSession
  refine StatsOk.setEvent ?_ n _
  have released := fun (freed leaving onLine : List DescId) (reporting : Bool) =>
    StatsOk.foldl (f := fun s d => if freed.contains d then s.releaseToFree d else s.settle reporting d)
      (fun _ d h => by
        split
        · exact StatsOk.releaseToFree h d
        · exact StatsOk.settle h reporting d)
      (ascending (leaving ++ freed))
      (StatsOk.foldl (fun _ d h => StatsOk.detach h .abandoned d) onLine
        (StatsOk.foldl (fun _ d h => StatsOk.setOutcome h .abandoned d) leaving ended))
  split
  · exact StatsOk.foldl (fun _ d h => StatsOk.appendCompletion h d) _ (released _ _ _ _)
  · exact released _ _ _ _

theorem drainTest (n : LinkId) : StatsOk (s.drainTest n) := by
  unfold State.drainTest
  split
  · split
    · exact h.modLE n _
    · exact (h.modLE n _).endSession n _ _
    · exact h
  · exact h

theorem openCommand (n : LinkId) : StatsOk (s.openCommand n) := by
  unfold State.openCommand
  split
  · exact (h.modLE n _).setResult _ _
  · exact h.setResult _ _

theorem closeCommand (n : LinkId) : StatsOk (s.closeCommand n) := by
  unfold State.closeCommand
  split
  · exact ((h.modLE n _).drainTest n).setResult _ _
  · exact (h.endSession n _ _).setResult _ _
  all_goals exact h.setResult _ _

theorem abortCommand (n : LinkId) : StatsOk (s.abortCommand n) := by
  unfold State.abortCommand
  split
  · exact h.setResult _ _
  · exact ((h.makeDrop n _).endSession n _ _).setResult _ _

theorem openInClosed (n : LinkId) (accept : Bool) (epoch : Epoch) (credit : Nat) :
    StatsOk (s.openInClosed n accept epoch credit) := by
  unfold State.openInClosed
  split
  · exact (h.modLE n _).setEvent n _
  · exact h.makeDrop n _

theorem openInOpening (n : LinkId) (epoch : Epoch) (rank credit : Nat) :
    StatsOk (s.openInOpening n epoch rank credit) := by
  unfold State.openInOpening
  split
  · exact (h.modLE n _).setEvent n _
  · split
    · exact h.setEvent n _
    · exact h

theorem takeOpen (n : LinkId) (epoch : Epoch) (rank credit : Nat) : StatsOk (s.takeOpen n epoch rank credit) := by
  unfold State.takeOpen
  split
  · exact h.openInClosed n _ _ _
  · exact h.openInOpening n _ _ _
  all_goals
    split
    · exact h.modLE n _
    · exact (h.endSession n _ _).openInClosed n _ _ _

theorem takeGrant (n : LinkId) (epoch : Epoch) (credit : Nat) : StatsOk (s.takeGrant n epoch credit) := by
  unfold State.takeGrant
  split
  · exact (h.modLE n _).setEvent n _
  · exact h

theorem takeClose (n : LinkId) (epoch : Epoch) : StatsOk (s.takeClose n epoch) := by
  unfold State.takeClose
  split
  · split
    · exact ((h.modLE n _).setEvent n _).drainTest n
    · exact h.modLE n _
    · exact h.modLE n _
    · exact h
    · exact h
  · exact h

theorem takeCloseAck (n : LinkId) (epoch : Epoch) : StatsOk (s.takeCloseAck n epoch) := by
  unfold State.takeCloseAck
  split
  · exact h.endSession n _ _
  · exact h

theorem takeDrop (n : LinkId) (epoch : Epoch) : StatsOk (s.takeDrop n epoch) := by
  unfold State.takeDrop
  split
  · exact h.endSession n _ _
  · exact h

/-! ### Windows -/

theorem appendDelivery (n : LinkId) (held : Bool) (d : DescId) : StatsOk (s.appendDelivery n held d) :=
  ((((h.congr rfl : StatsOk { s with delivery := s.delivery ++ [d] }).modDesc d _).modLE n _).setGlobal _).count n _

theorem deliver (n : LinkId) (d : DescId) : StatsOk (s.deliver n d) :=
  (StatsOk.foldl (fun _ x h => StatsOk.appendDelivery h n true x) _ (h.appendDelivery n false d)).modLE n _

theorem hold (n : LinkId) (d : DescId) (k : Nat) : StatsOk (s.hold n d k) :=
  ((h.modDesc d _).modLE n _).makeReceipt n

theorem dropData (n : LinkId) (d : DescId) (cause : DropCause) : StatsOk (s.dropData n d cause) :=
  (h.releaseToFree d).reportDrop n cause

theorem takeData (n : LinkId) (d : DescId) : StatsOk (s.takeData n d) := by
  have alive := h.modLE n LinkEngine.signOfLife
  unfold State.takeData
  split
  · dsimp only
    split
    · exact alive.deliver n d
    · exact alive.hold n d _
    · exact (alive.dropData n d _).makeReceipt n
    · exact (alive.dropData n d _).makeReceipt n
  · exact h.dropData n d _

theorem takeNomem (n : LinkId) : StatsOk (s.takeNomem n) := by
  unfold State.takeNomem
  dsimp only
  split
  · exact (h.reportDrop n _).makeReceipt n
  · exact h.reportDrop n _

theorem takeNosession (n : LinkId) (epoch : Epoch) : StatsOk (s.takeNosession n epoch) := by
  unfold State.takeNosession
  dsimp only
  split
  · exact (h.reportDrop n _).makeDrop n _
  · exact h.reportDrop n _

theorem acknowledge (n : LinkId) (k : Ordinal) (d : Nat) : StatsOk (s.acknowledge n k d) :=
  ((StatsOk.foldl (fun _ x h => StatsOk.setOutcome h .delivered x) _
    (StatsOk.foldl (fun _ x h => StatsOk.detach h .delivered x) _ h)).modLE n _).completeAll _ _

theorem takeValidReceipt (n : LinkId) (k : Ordinal) (gapMap : BitVec 7) (credit : Nat) :
    StatsOk (s.takeValidReceipt n k gapMap credit) :=
  ((((StatsOk.foldl (fun _ x h => StatsOk.modDesc h x _) _ (h.acknowledge n k _)).modLE n _).count n _).modLE n
    _).drainTest n

theorem takeReceipt (n : LinkId) (epoch : Epoch) (k : Ordinal) (gapMap : BitVec 7) (credit : Nat) :
    StatsOk (s.takeReceipt n epoch k gapMap credit) := by
  unfold State.takeReceipt
  split
  · exact h.makeDrop n _
  · exact h
  all_goals
    split
    · split
      · exact h.takeValidReceipt n k gapMap credit
      · exact h.count n _
    · exact h.reportDrop n _

theorem takeQuery (n : LinkId) (epoch : Epoch) : StatsOk (s.takeQuery n epoch) := by
  unfold State.takeQuery
  split
  · exact h.makeDrop n _
  · exact h
  all_goals
    split
    · exact h.makeReceipt n
    · exact h.reportDrop n _

/-! ### The receive side of a Line Unit -/

theorem releaseRecord (n : LinkId) : StatsOk (s.releaseRecord n) := by
  unfold State.releaseRecord
  split
  · exact h.releaseToFree _
  · exact h

theorem abandon (n : LinkId) (cause : DropCause) : StatsOk (s.abandon n cause) :=
  ((h.releaseRecord n).modLU n _).reportDrop n cause

theorem abandonIfOpen (n : LinkId) (cause : DropCause) : StatsOk (s.abandonIfOpen n cause) := by
  unfold State.abandonIfOpen
  split
  · exact h.abandon n cause
  · exact h

theorem lineDown (n : LinkId) : StatsOk (s.lineDown n) := by
  have down := (h.modLU n fun u => { u with lineState := .down, run := 0 }).setEvent n .lineDown
  unfold State.lineDown
  dsimp only
  split
  · exact down.endSession n _ _
  · exact down

theorem goodCharacter (n : LinkId) : StatsOk (s.goodCharacter n) := by
  unfold State.goodCharacter
  dsimp only
  split
  · exact ((h.modLU n _).modLU n _).setEvent n _
  · exact h.modLU n _

theorem faultedCharacter (n : LinkId) : StatsOk (s.faultedCharacter n) := (h.modLU n _).count n _

theorem lineLossExpires (n : LinkId) : StatsOk (s.lineLossExpires n) := by
  unfold State.lineLossExpires
  dsimp only
  split
  · exact ((h.modLU n _).abandonIfOpen n _).lineDown n
  · exact h.modLU n _

theorem setStorage (n : LinkId) (storage : Storage) (d : Option DescId) : StatsOk (s.setStorage n storage d) :=
  h.modLU n _

theorem decideStorage (n : LinkId) (len : Nat) : StatsOk (s.decideStorage n len) := by
  unfold State.decideStorage
  split
  · split
    · rename_i hclaim
      exact (h.claim hclaim).setStorage n _ _
    · exact h.setStorage n _ _
  · exact h.setStorage n _ _

theorem storageAt (n : LinkId) (i : Nat) (b : Byte) : StatsOk (s.storageAt n i b) := by
  unfold State.storageAt
  split
  · exact h.decideStorage n _
  · exact h
  · exact h.setStorage n _ _
  · exact h.setStorage n _ _
  · exact h

theorem storePayload (n : LinkId) (i : Nat) (b : Byte) : StatsOk (s.storePayload n i b) := by
  unfold State.storePayload
  dsimp only
  split
  · split
    · exact h.writePayload _ _ _
    · exact h
  · exact h

theorem takeByte (n : LinkId) (b : Byte) : StatsOk (s.takeByte n b) :=
  ((h.modLU n _).storageAt n _ b).storePayload n _ b

theorem takeControl (n : LinkId) (k : Kind) (r : RxRecord) : StatsOk (s.takeControl n k r) := by
  unfold State.takeControl
  cases k with
  | data => exact h
  | receipt => exact h.takeReceipt n _ _ _ _
  | query => exact h.takeQuery n _
  | open_ => exact h.takeOpen n _ _ _
  | grant => exact h.takeGrant n _ _
  | close => exact h.takeClose n _
  | closeAck => exact h.takeCloseAck n _
  | drop => exact h.takeDrop n _

theorem handOff (n : LinkId) (r : RxRecord) : StatsOk (s.handOff n r) := by
  unfold State.handOff
  split
  · split
    · exact h.takeData n _
    · exact h
  · exact h.takeNomem n
  · exact h.takeNosession n _
  · exact h.takeControl n _ r
  · exact h

theorem finishParcel (n : LinkId) : StatsOk (s.finishParcel n) := by
  unfold State.finishParcel
  dsimp only
  split
  · exact ((h.releaseRecord n).modLU n _).reportDrop n _
  · exact (h.modLU n _).handOff n _

theorem huntCharacter (n : LinkId) (c : LineChar) : StatsOk (s.huntCharacter n c) := by
  unfold State.huntCharacter
  split
  · exact h
  · exact h.modLU n _
  all_goals exact h.count n _

theorem parcelCharacter (n : LinkId) (c : LineChar) : StatsOk (s.parcelCharacter n c) := by
  unfold State.parcelCharacter
  split
  · exact h.takeByte n _
  · exact h.finishParcel n
  · exact h.abandon n _
  · exact h.abandon n _
  · exact (h.abandon n _).modLU n _

theorem recognised (n : LinkId) (o : CharOutcome) : StatsOk (s.recognised n o) := by
  unfold State.recognised
  split
  · exact (h.faultedCharacter n).abandonIfOpen n _
  · split
    · exact ((h.goodCharacter n).modLU n _).parcelCharacter n _
    · exact (h.goodCharacter n).huntCharacter n _

theorem atMark (n : LinkId) : StatsOk (s.atMark n) := by
  unfold State.atMark
  split
  · exact (h.modLU n _).recognised n _
  · exact h.modLU n _

theorem receiveSamples (n : LinkId) (samples : BitVec 12) : StatsOk (s.receiveSamples n samples) := by
  unfold State.receiveSamples
  dsimp only
  split
  · exact h.atMark n
  · split
    · exact (h.atMark n).modLU n _
    · exact (h.atMark n).recognised n _

theorem breakRecognised (n : LinkId) : StatsOk (s.breakRecognised n) := by
  unfold State.breakRecognised
  dsimp only
  split
  · exact h
  · split
    · exact ((h.modLU n _).abandonIfOpen n _).lineDown n
    · exact (h.modLU n _).abandonIfOpen n _

theorem gapExpires (n : LinkId) : StatsOk (s.gapExpires n) := (h.modLU n _).abandonIfOpen n _

theorem writeGapLimit (n : LinkId) (w : Word) : StatsOk (s.writeGapLimit n w) := by
  unfold State.writeGapLimit
  dsimp only
  split
  · exact (h.modLU n _).gapExpires n
  · exact h.modLU n _

theorem writeLossLimit (n : LinkId) (w : Word) : StatsOk (s.writeLossLimit n w) := by
  unfold State.writeLossLimit
  dsimp only
  split
  · exact (h.modLU n _).lineLossExpires n
  · exact h.modLU n _

/-! ### LINK RESET, staging and statistics -/

theorem resetLink (n : LinkId) : StatsOk (s.resetLink n) := by
  have cleared : StatsOk { s with
      staging := s.stagingWithout n
      readPointer := s.pointerWithout n
      delivery := s.delivery.filter fun d => !s.ofLink n d
      completion := s.completion.filter fun d => !s.ofLink n d } := h.congr rfl
  exact StatsOk.foldl (fun _ d h => StatsOk.releaseToFree h d) _
    (StatsOk.foldl (fun _ d h => StatsOk.detach h .discard d) _
      (cleared.modLink_of n Link.linkReset rfl (h.2 n)))

omit h in
/-- The sum of the four guarantees, one of them apart (R13). -/
theorem sum_guarantee_eq (s : State) (n : LinkId) :
    (allLinks.map fun m => (s.link m).guarantee).sum = s.guaranteeSum n (s.link n).guarantee := by
  unfold State.guaranteeSum
  fin_cases n <;> simp [allLinks, bne] <;> omega

omit h in
theorem guaranteeSum_modLink_same (s : State) (n : LinkId) (f : Link → Link) (v : Nat) :
    (s.modLink n f).guaranteeSum n v = s.guaranteeSum n v := by
  rw [guaranteeSum_eq, guaranteeSum_eq]
  congr 2
  refine List.map_congr_left fun m hm => ?_
  have hne : m ≠ n := by simpa using (List.mem_filter.mp hm).2
  rw [State.link_modLink_ne n m f s hne]

/-- SET GUARANTEE takes a value only where the sum with it stays at 128 or below (R13). -/
theorem setGuarantee (n : LinkId) : StatsOk (s.setGuarantee n) := by
  unfold State.setGuarantee
  dsimp only
  split
  · rename_i hfits
    refine StatsOk.setResult (StatsOk.reevaluate ⟨?_, fun m c => ?_⟩) _ _
    · obtain ⟨-, hsum⟩ := hfits
      unfold GuaranteesOk
      rw [sum_guarantee_eq _ n, guaranteeSum_modLink_same, State.link_modLink_same]
      exact hsum
    · rw [State.link_modLink]
      split <;> exact h.2 _ c
  · exact h.setResult _ _

theorem beginOn (n : LinkId) : StatsOk (s.beginOn n) := by
  unfold State.beginOn
  dsimp only
  split
  · exact h.setResult _ _
  · split
    · exact h.setResult _ _
    · split
      · exact h.setResult _ _
      · rename_i hclaim
        exact (h.claim hclaim).congr rfl

theorem stageWord (c : Staging) (w : Word) : StatsOk (s.stageWord c w) := by
  have low := h.writePayload c.descriptor c.writeCount (w.extractLsb' 0 8)
  unfold State.stageWord
  dsimp only
  split
  · exact low.congr rfl
  · exact (low.writePayload c.descriptor (c.writeCount + 1) (w.extractLsb' 8 8)).congr rfl

theorem commitStaged (c : Staging) : StatsOk (s.commitStaged c) := by
  unfold State.commitStaged
  split
  · exact h.setResult _ _
  · split
    · exact h.setResult _ _
    · split
      · exact h.setResult _ _
      · have closed : StatsOk { s with staging := none } := h.congr rfl
        exact ((closed.modDesc c.descriptor _).modLE c.link _).setResult _ _

theorem zeroSelected : StatsOk s.zeroSelected := by
  unfold State.zeroSelected
  split
  · exact h.modLink_of _ _ rfl (h.counters_set_le _ _ (Nat.zero_le _))
  · exact h

theorem clearCounters (n : LinkId) : StatsOk (s.modLink n Link.clearCounters) :=
  h.modLink_of n _ rfl fun c => by simp [Link.clearCounters, Vector.get_eq_getElem]

/-! ### Registers -/

theorem writeWatermark (v : Nat) : StatsOk (s.writeWatermark v) := by
  unfold State.writeWatermark
  split
  · exact h.congr rfl
  · split <;> exact h.congr rfl

theorem writeRegister (address : BitVec 5) (w : Word) : StatsOk (s.writeRegister address w) := by
  unfold State.writeRegister
  split
  · exact h.congr rfl
  · exact h.congr rfl
  · exact h.modLE _ _
  · exact h.modLE _ _
  · exact h.modLE _ _
  · exact h.modLU _ _
  · exact h.congr rfl
  · exact h.congr rfl
  · exact h.congr rfl
  · exact h

/-! ### Timers -/

theorem exhaust (n : LinkId) (mode : TimerMode) : StatsOk (s.exhaust n mode) := (h.makeDrop n _).endSession n _ _

theorem expiryEffect (n : LinkId) (mode : TimerMode) : StatsOk (s.expiryEffect n mode) := by
  unfold State.expiryEffect
  cases mode with
  | control => exact h.modLE n _
  | resend => exact StatsOk.foldl (fun _ d h => StatsOk.modDesc h d _) _ h
  | query => exact h.modLE n _

theorem expireIn (n : LinkId) (mode : TimerMode) : StatsOk (s.expireIn n mode) := by
  have counted := (h.modLE n fun e => { e with retryCount := e.retryCount + 1 }).count n .timerExpiry
  unfold State.expireIn State.linkTimerExpires
  dsimp only
  split
  · split
    · exact counted.exhaust n mode
    · exact (counted.expiryEffect n mode).modLE n _
  · exact h

/-! ### The transmitter -/

theorem send (n : LinkId) (bytes : List Byte) (d : Option DescId) : StatsOk (s.send n bytes d) := h.modLU n _

theorem advertise (n : LinkId) (credit : Nat) : StatsOk (s.advertise n credit) := h.modLE n _

theorem start (n : LinkId) (c : Choice) : StatsOk (s.start n c) := by
  unfold State.start
  cases c with
  | drop => exact h.send n _ _
  | grant => exact (h.send n _ _).advertise n _
  | closeAck => exact h.send n _ _
  | open_ => exact (h.send n _ _).advertise n _
  | close => exact h.send n _ _
  | receipt => exact (((h.send n _ _).advertise n _).modLE n _).count n _
  | resend d => exact ((h.modDesc d _).send n _ _).count n _
  | firstSend d => exact (((h.modDesc d _).modLE n _).send n _ _).count n _
  | query => exact h.send n _ _
  | nothing => exact h.modLU n _

theorem makeChoice (n : LinkId) : StatsOk (s.makeChoice n) := (h.modLE n _).start n _

theorem wholeEnd (n : LinkId) (d : DescId) : StatsOk (s.wholeEnd n d) := by
  unfold State.wholeEnd
  split
  · exact (h.modDesc d _).modLE n _
  · exact (h.completeDetached n d).drainTest n
  · exact h

theorem cutEnd (n : LinkId) (d : DescId) : StatsOk (s.cutEnd n d) := by
  unfold State.cutEnd
  split
  · exact h.modDesc d _
  · exact (h.completeDetached n d).drainTest n
  · exact h

/-! ### One REFCLK period -/

theorem tick : StatsOk s.tick := by
  refine h.of_links (fun n => ?_) fun n c => ?_ <;> rw [tick_link] <;> unfold Link.tick <;> cases s.boundaryNow
  · rfl
  · rfl
  · exact h.2 n c
  · exact h.2 n c

/-! ### The commands -/

omit h in
theorem deviceWide (s : State) : StatsOk s.deviceWide := by
  refine ⟨?_, fun n c => ?_⟩
  · have hzero : ∀ n, (s.deviceWide.link n).guarantee = 0 := fun n => by rw [link_deviceWide]; rfl
    simp [GuaranteesOk, hzero]
  · rw [link_deviceWide]
    simp [Link.atReset, Link.reset, Vector.get_eq_getElem]

theorem execHostOpen (link : BitVec 4) : Answers StatsOk (execHostOpen link s) := by
  unfold Machine.execHostOpen
  split
  · exact h.openCommand _
  · exact h.setResult _ _

theorem execHostClose (link : BitVec 4) : Answers StatsOk (execHostClose link s) := by
  unfold Machine.execHostClose
  split
  · exact h.closeCommand _
  · exact h.setResult _ _

theorem execHostAbort (link : BitVec 4) : Answers StatsOk (execHostAbort link s) := by
  unfold Machine.execHostAbort
  split
  · exact h.abortCommand _
  · exact h.setResult _ _

theorem execLinkReset (link : BitVec 4) : Answers StatsOk (execLinkReset link s) := by
  unfold Machine.execLinkReset
  split
  · exact (h.resetLink _).setResult _ _
  · exact h.setResult _ _

theorem execSetGuarantee (link : BitVec 4) : Answers StatsOk (execSetGuarantee link s) := by
  unfold Machine.execSetGuarantee
  split
  · exact h.setGuarantee _
  · exact h.setResult _ _

theorem execBeginStaging (link : BitVec 4) : Answers StatsOk (execBeginStaging link s) := by
  unfold Machine.execBeginStaging
  split
  · exact h.setResult _ _
  · split
    · exact h.beginOn _
    · exact h.setResult _ _

theorem execCommit (link : BitVec 4) : Answers StatsOk (execCommit link s) := by
  unfold Machine.execCommit
  split
  · exact h.commitStaged _
  · exact h.setResult _ _

theorem execCancel (link : BitVec 4) : Answers StatsOk (execCancel link s) := by
  unfold Machine.execCancel
  split
  · refine StatsOk.setResult (StatsOk.releaseToFree ?_ _) _ _
    exact h.congr rfl
  · exact h.setResult _ _

theorem execRelease (link : BitVec 4) : Answers StatsOk (execRelease link s) := by
  unfold Machine.execRelease
  split
  · refine StatsOk.setResult (StatsOk.releaseToFree ?_ _) _ _
    exact h.congr rfl
  · exact h.setResult _ _

theorem execPop (link : BitVec 4) : Answers StatsOk (execPop link s) := by
  unfold Machine.execPop
  split
  · refine StatsOk.setResult (StatsOk.releaseToFree ?_ _) _ _
    exact h.congr rfl
  · exact h.setResult _ _

theorem execClearCounters (link : BitVec 4) : Answers StatsOk (execClearCounters link s) := by
  unfold Machine.execClearCounters
  split
  · exact (h.clearCounters _).setResult _ _
  · exact h.setResult _ _

omit h in
theorem execDeviceReset (s : State) (link : BitVec 4) : Answers StatsOk (execDeviceReset link s) :=
  (deviceWide s).congr rfl

theorem execUnassignedCommandCode (code link : BitVec 4) : Answers StatsOk (execUnassignedCommandCode code link s) := by
  unfold Machine.execUnassignedCommandCode
  split
  · exact h.execHostOpen link
  · exact h.execHostClose link
  · exact h.execHostAbort link
  · exact h.execLinkReset link
  · exact h.execSetGuarantee link
  · exact h.execBeginStaging link
  · exact h.execCommit link
  · exact h.execCancel link
  · exact h.execRelease link
  · exact h.execPop link
  · exact h.execClearCounters link
  · exact execDeviceReset s link
  · exact h.setResult _ _

theorem execStageDataWrite (w : Word) : Answers StatsOk (execStageDataWrite w s) := by
  unfold Machine.execStageDataWrite
  split
  · split
    · exact h.stageWord _ w
    · exact h.setGlobal _
  · exact h.setGlobal _

theorem execEventsWrite (set : EventSet) (w : Word) : Answers StatsOk (execEventsWrite set w s) := by
  cases set with
  | global => exact h.congr rfl
  | link => exact h.clearEvents _ _

theorem execMaskWrite (set : EventSet) (w : Word) : Answers StatsOk (execMaskWrite set w s) := by
  cases set with
  | global => exact h.congr rfl
  | link => exact h.modLink_of _ _ rfl (h.2 _)

theorem execLineLimitsWrite (limit : LimitWord) (w : Word) : Answers StatsOk (execLineLimitsWrite limit w s) := by
  cases limit with
  | gap => exact h.writeGapLimit _ w
  | lineLoss => exact h.writeLossLimit _ w

theorem execRegisterWrite (address : BitVec 5) (w : Word) : Answers StatsOk (execRegisterWrite address w s) := by
  unfold Machine.execRegisterWrite
  split
  · exact h.execUnassignedCommandCode _ _
  · exact h.congr rfl
  · exact h.execEventsWrite _ w
  · exact h.execMaskWrite _ w
  · exact h.execEventsWrite _ w
  · exact h.execMaskWrite _ w
  · exact h.execLineLimitsWrite _ w
  · exact h.execLineLimitsWrite _ w
  · exact h.writeWatermark _
  · exact h.execStageDataWrite w
  · exact h.writeRegister address w

theorem execDeliveryDataRead : Answers StatsOk (execDeliveryDataRead s) := by
  unfold Machine.execDeliveryDataRead
  split <;> exact h.congr rfl

theorem execCounterValueRead : Answers StatsOk (execCounterValueRead s) := by
  refine StatsOk.driveData (s := if s.readClears then s.zeroSelected else s) ?_ _
  split
  · exact h.zeroSelected
  · exact h

theorem execLinkStatusRead : Answers StatsOk (execLinkStatusRead s) := by
  unfold Machine.execLinkStatusRead
  split <;> exact h.congr rfl

theorem execReceiveCharacter (n : LinkId) (samples : BitVec 12) :
    Answers StatsOk (execReceiveCharacter n samples s) := by
  unfold Machine.execReceiveCharacter
  split
  · exact h
  · exact h.receiveSamples n samples

theorem execLineBreak (n : LinkId) : Answers StatsOk (execLineBreak n s) := by
  unfold Machine.execLineBreak
  split
  · exact h
  · exact h.breakRecognised n

theorem execLineLossExpiry (n : LinkId) : Answers StatsOk (execLineLossExpiry n s) := by
  unfold Machine.execLineLossExpiry
  split
  · exact h.lineLossExpires n
  · exact h

theorem execGapTimerExpiry (n : LinkId) : Answers StatsOk (execGapTimerExpiry n s) := by
  unfold Machine.execGapTimerExpiry
  split
  · exact h.gapExpires n
  · exact h

theorem execReceiveData (n : LinkId) : Answers StatsOk (execReceiveData n s) := by
  unfold Machine.execReceiveData
  split
  · split
    · exact (h.modLU n _).takeData n _
    · exact h
  · exact h

theorem execTransmitChoice (n : LinkId) : Answers StatsOk (execTransmitChoice n s) := by
  unfold Machine.execTransmitChoice
  split
  · exact h.makeChoice n
  · exact h

theorem execTransmissionEnd (n : LinkId) : Answers StatsOk (execTransmissionEnd n s) := by
  unfold Machine.execTransmissionEnd
  split
  · exact (h.modLU n _).wholeEnd n _
  · exact h

theorem execAbortEnd (n : LinkId) : Answers StatsOk (execAbortEnd n s) := by
  unfold Machine.execAbortEnd
  split
  · split
    · exact (h.modLU n _).cutEnd n _
    · exact h.modLU n _
  · exact h

theorem execTransmitterFillStart (n : LinkId) : Answers StatsOk (execTransmitterFillStart n s) := by
  unfold Machine.execTransmitterFillStart
  split
  · exact h.modLU n _
  · exact h

theorem execReceiptHoldExpiry (n : LinkId) : Answers StatsOk (execReceiptHoldExpiry n s) := by
  unfold Machine.execReceiptHoldExpiry
  split
  · exact (h.modLE n _).makeReceipt n
  · exact h

/-- Every command keeps guarantees and counters in range. -/
theorem exec (c : Instr) : Answers StatsOk (exec c s) := by
  cases c with
  | hostOpen link => exact h.execHostOpen link
  | hostClose link => exact h.execHostClose link
  | hostAbort link => exact h.execHostAbort link
  | linkReset link => exact h.execLinkReset link
  | setGuarantee link => exact h.execSetGuarantee link
  | beginStaging link => exact h.execBeginStaging link
  | commit link => exact h.execCommit link
  | cancel link => exact h.execCancel link
  | release link => exact h.execRelease link
  | pop link => exact h.execPop link
  | clearCounters link => exact h.execClearCounters link
  | deviceReset link => exact execDeviceReset s link
  | unassignedCommandCode code link => exact h.execUnassignedCommandCode code link
  | pinReset => exact deviceWide s
  | stageDataWrite w => exact h.execStageDataWrite w
  | deliveryDataRead => exact h.execDeliveryDataRead
  | counterValueRead => exact h.execCounterValueRead
  | linkStatusRead => exact h.execLinkStatusRead
  | linkSelectWrite w => exact h.congr rfl
  | eventsWrite set w => exact h.execEventsWrite set w
  | maskWrite set w => exact h.execMaskWrite set w
  | poolWatermarkWrite w => exact h.writeWatermark _
  | lineLimitsWrite limit w => exact h.execLineLimitsWrite limit w
  | registerWrite address w => exact h.execRegisterWrite address w
  | receiveCharacter n samples => exact h.execReceiveCharacter n samples
  | lineBreak n => exact h.execLineBreak n
  | lineLossExpiry n => exact h.execLineLossExpiry n
  | gapTimerExpiry n => exact h.execGapTimerExpiry n
  | receiveData n => exact h.execReceiveData n
  | receiveReceipt n epoch k gapMap credit => exact h.takeReceipt n epoch k gapMap _
  | receiveQuery n epoch => exact h.takeQuery n epoch
  | receiveOpen n epoch rank credit => exact h.takeOpen n epoch _ _
  | receiveGrant n epoch credit => exact h.takeGrant n epoch _
  | receiveClose n epoch => exact h.takeClose n epoch
  | receiveCloseAck n epoch => exact h.takeCloseAck n epoch
  | receiveDrop n epoch => exact h.takeDrop n epoch
  | drainComplete n => exact h.drainTest n
  | transmitChoice n => exact h.execTransmitChoice n
  | transmissionEnd n => exact h.execTransmissionEnd n
  | abortEnd n => exact h.execAbortEnd n
  | transmitterFillStart n => exact h.execTransmitterFillStart n
  | controlExpiry n => exact h.expireIn n .control
  | resendExpiry n => exact h.expireIn n .resend
  | queryExpiry n => exact h.expireIn n .query
  | receiptHoldExpiry n => exact h.execReceiptHoldExpiry n
  | rxdReturnsToMark n => exact h.atMark n

/-- A step keeps guarantees and counters in range: its command does, and so does a REFCLK period. -/
theorem step : Answers StatsOk (step s) := by
  unfold Machine.step
  split
  · refine StatsOk.exec ?_ _
    exact h.congr rfl
  · exact h.tick

end StatsOk

/-- Settles O59: the two ranges together are kept by every command and by a REFCLK period. -/
theorem everyStepKeepsGuaranteesAndCounters : Obligations.EveryStepKeepsGuaranteesAndCounters := by
  intro s t hguarantees hcounters hstep
  have h : Answers StatsOk (step s) := StatsOk.step ⟨hguarantees, hcounters⟩
  rw [hstep] at h
  exact h

end Sys2Proof.Machine
end

section
/-! The family of chapter 2: the links' order, and what the premises about ownership leave open in it. -/

namespace Sys2Proof.Machine
open Sys2Proof.Safety

/-! ## A staging context beside a RETAINED descriptor of another link

The premises are those of `strayStaging`: `SharedOwns` admits a staging context that names another link than its descriptor's.
Here the descriptor is RETAINED, and CANCEL (R165) takes it out of the middle of a window: the retention queue still lists it,
but its ordinal is absent (R91). Premises that tie the context's descriptor to STAGING would leave this state out too. -/

/-- A re-evaluation leaves the queues and the ordinals of a Link Engine alone (R17). -/
theorem retention_reevaluate (s : State) (n : LinkId) :
    (s.reevaluate.le n).retention = (s.le n).retention ∧ (s.reevaluate.le n).oldest = (s.le n).oldest := by
  unfold State.le
  rw [State.link_reevaluate]
  split <;> exact ⟨rfl, rfl⟩

/-- A release leaves every retention queue and its oldest ordinal alone (R15, R17). -/
theorem retention_releaseToFree (d : DescId) (s : State) (n : LinkId) :
    ((s.releaseToFree d).le n).retention = (s.le n).retention ∧ ((s.releaseToFree d).le n).oldest = (s.le n).oldest := by
  unfold State.releaseToFree
  split
  · exact ⟨rfl, rfl⟩
  · obtain ⟨hretention, holdest⟩ := retention_reevaluate
      ({ s with freeBlocks := s.freeBlocks ++ (s.desc d).blocks, freeDescs := s.freeDescs ++ [d] }.setDesc d {}).rearm n
    rw [hretention, holdest, State.le_rearm]
    exact ⟨rfl, rfl⟩

/-- A RETAINED parcel of link 0 with one payload byte, in block 0, sent as ordinal 0 and off the line. -/
def retainedByte : Descriptor :=
  { state := .retained, link := some 0, direction := some .outbound, length := some 1, blocks := [0], epoch := some 0,
    ordinal := some 0, tag := some 0, resends := some 0, seen := some false, resendPending := some false,
    onLine := some false }

/-- Link 0 OPEN with that parcel in its retention queue. -/
def retainingLink : Link :=
  { Link.reset with le := { LinkEngine.reset with session := .open_, retention := [0], nextOrdinal := 1 } }

/-- The part with that link and parcel, a staging context that names descriptor 0 but link 1, and CANCEL in front. -/
def strayRetention : State :=
  { State.reset with
    pending := [.cancel 0]
    descs := State.reset.descs.set 0 retainedByte
    freeDescs := (List.finRange 64).tail
    freeBlocks := (List.finRange 128).tail
    links := State.reset.links.set 0 retainingLink
    staging := some { link := 1, length := 1, tag := 0, descriptor := 0, writeCount := 0 } }

theorem desc_strayRetention (d : DescId) : strayRetention.desc d = if d = 0 then retainedByte else {} := by
  have hset := State.desc_setDesc 0 d retainedByte State.reset
  have hreset : State.reset.desc d = {} := by simp [State.desc, State.reset, Vector.get_eq_getElem]
  rw [hreset] at hset
  exact hset

theorem link_strayRetention (n : LinkId) : strayRetention.link n = if n = 0 then retainingLink else Link.reset := by
  fin_cases n <;> rfl

theorem strayRetention_poolOk : PoolOk strayRetention := by
  refine ⟨?_, ⟨by decide, fun d => ?_⟩, fun d => ?_, fun d => ?_⟩
  · unfold BlocksOwned; decide +kernel
  · have hmem : d ∈ strayRetention.freeDescs ↔ d ≠ 0 := by revert d; decide
    rw [hmem, desc_strayRetention]
    by_cases h : d = 0 <;> simp [h, retainedByte]
  · rw [desc_strayRetention]
    by_cases h : d = 0 <;> simp [h, retainedByte]
  · rw [desc_strayRetention]
    by_cases h : d = 0 <;> simp [h, retainedByte]

theorem strayRetention_sharedOwns : SharedOwns strayRetention := by
  refine ⟨by decide, by decide, fun d => ?_⟩
  rw [desc_strayRetention]
  by_cases h : d = 0 <;> simp [h, strayRetention, State.reset, retainedByte]

theorem strayRetention_linkOwns (n : LinkId) : LinkOwns strayRetention n := by
  unfold LinkOwns State.le State.lu State.isOnLine
  rw [link_strayRetention]
  by_cases hn : n = 0
  · subst hn
    refine ⟨by decide, by decide, by decide, fun d => ?_⟩
    rw [desc_strayRetention]
    by_cases h : d = 0 <;>
      simp [h, retainedByte, retainingLink, Link.reset, LinkEngine.reset, LineUnit.reset, emptyWindow]
  · rw [if_neg hn]
    refine ⟨by decide, by decide, by decide, fun d => ?_⟩
    rw [desc_strayRetention]
    by_cases h : d = 0 <;>
      simp [h, retainedByte, Ne.symm hn, Link.reset, LinkEngine.reset, LineUnit.reset, emptyWindow]

theorem strayRetention_ownersOk : OwnersOk strayRetention := by
  refine ⟨strayRetention_sharedOwns, strayRetention_linkOwns, fun n => ?_⟩
  unfold State.lu
  rw [link_strayRetention]
  split <;> exact recordOk_reset

theorem retainingLink_linkOk : LinkOk retainingLink := by
  refine ⟨?window, ?closed, ⟨by decide, paramsOk_reset, paramsOk_reset⟩, ?mode, ?drain, ?storing, ?line,
    trivial, by simp [retainingLink, Link.reset, LineUnit.reset]⟩
  case window => unfold WindowOk; decide
  case closed => unfold ClosedOk; decide
  case mode => unfold ModeOk; decide
  case drain => unfold DrainOk; decide
  case storing => unfold StoringOk; decide
  case line => unfold LineOk; decide

theorem strayRetention_linksOk : LinksOk strayRetention := by
  intro n
  rw [link_strayRetention]
  split
  · exact retainingLink_linkOk
  · exact linkOk_reset

theorem strayRetention_ordinalsOk : OrdinalsOk strayRetention := by
  unfold OrdinalsOk; decide +kernel

/-- CANCEL releases the descriptor of the staging context (R165) and leaves every retention queue alone. -/
theorem cancel_keeps_retention {s : State} {c : Staging} (link : BitVec 4) (hpool : PoolOk s) (hc : s.staging = some c)
    (n : LinkId) :
    ∃ t, exec (.cancel link) s = .next t ∧ t.desc c.descriptor = {} ∧ (t.le n).retention = (s.le n).retention ∧
      (t.le n).oldest = (s.le n).oldest := by
  refine ⟨({ s with staging := none }.releaseToFree c.descriptor).setResult 8 .done, ?_, ?_, ?_⟩
  · simp only [exec, execCancel, hc]
  · exact desc_releaseToFree_same _ _ (PoolOk.congr hpool rfl rfl rfl)
  · rw [State.le_setResult]
    exact retention_releaseToFree c.descriptor { s with staging := none } n

/-- CANCEL on that state frees the parcel that link 0's retention queue holds as its oldest. -/
theorem step_strayRetention :
    ∃ t, step strayRetention = .next t ∧ t.desc 0 = {} ∧ (t.le 0).retention = [0] ∧ (t.le 0).oldest = 0 :=
  cancel_keeps_retention (s := { strayRetention with pending := [] }) 0
    (PoolOk.congr strayRetention_poolOk rfl rfl rfl) rfl 0

/-- Refutes O58: CANCEL frees a parcel in a retention queue, so that the oldest retained ordinal is absent. -/
theorem not_everyStepKeepsLinksInOrder : ¬ Obligations.EveryStepKeepsLinksInOrder := by
  intro h
  obtain ⟨t, hstep, hdesc, hretention, holdest⟩ := step_strayRetention
  obtain ⟨-, hordinals⟩ := h strayRetention t strayRetention_poolOk strayRetention_ownersOk strayRetention_linksOk
    strayRetention_ordinalsOk hstep
  obtain ⟨hretained, -⟩ := hordinals 0
  have holdestOrdinal := hretained 0 0 (by rw [hretention]; simp)
  rw [hdesc, holdest] at holdestOrdinal
  exact absurd holdestOrdinal (by simp)

end Sys2Proof.Machine
end

section
/-! The family of chapter 2: characters as bits, both ways (R22, R24, R26, R211). -/

namespace Sys2Proof.Machine
open Sys2Proof.Safety

/-! ## Parity -/

/-- An exclusive-or over a list is the parity of the number of its entries that are Set. -/
theorem foldl_bne_eq_parity (f : Nat → Bool) (l : List Nat) (b : Bool) :
    l.foldl (fun p i => p != f i) b = (b != decide ((l.filter f).length % 2 = 1)) := by
  induction l generalizing b with
  | nil => simp
  | cons a l ih =>
    rw [List.foldl_cons, ih]
    cases ha : f a
    · simp [ha]
    · rw [List.filter_cons_of_pos ha, List.length_cons]
      rcases Nat.mod_two_eq_zero_or_one (l.filter f).length with h | h
      · cases b <;> simp [Nat.add_mod, h]
      · cases b <;> simp [Nat.add_mod, h]

theorem oddOnes_eq_parity (nine : BitVec 9) :
    oddOnes nine = decide (((List.range 9).filter fun i => nine.getLsbD i).length % 2 = 1) := by
  rw [oddOnes, foldl_bne_eq_parity, Bool.false_bne]

/-- The ten bits that odd parity is taken over, the tenth being the parity bit (R22). -/
theorem ones_odd_iff (x : BitVec 12) :
    ((List.range 10).filter fun i => x.getLsbD (i + 1)).length % 2 = 1 ↔
      oddOnes (x.extractLsb' 1 9) ≠ x.getLsbD 10 := by
  have hnine : (List.range 9).filter (fun i => (x.extractLsb' 1 9).getLsbD i) =
      (List.range 9).filter fun i => x.getLsbD (i + 1) := by
    refine List.filter_congr fun i hi => ?_
    have hlt : i < 9 := List.mem_range.mp hi
    simp [hlt, Nat.add_comm]
  rw [oddOnes_eq_parity, hnine, show (10 : Nat) = 9 + 1 from rfl, List.range_succ, List.filter_append,
    List.length_append]
  have htail : ([9].filter fun i => x.getLsbD (i + 1)).length = (x.getLsbD 10).toNat := by
    cases h : x.getLsbD 10
    · rw [List.filter_cons_of_neg (p := fun i => x.getLsbD (i + 1)) (by rw [h]; decide)]; rfl
    · rw [List.filter_cons_of_pos (p := fun i => x.getLsbD (i + 1)) h]; rfl
  rw [htail]
  rcases Nat.mod_two_eq_zero_or_one ((List.range 9).filter fun i => x.getLsbD (i + 1)).length with h | h
  · generalize x.getLsbD 10 = p
    cases p <;> simp [Nat.add_mod, h]
  · generalize x.getLsbD 10 = p
    cases p <;> simp [Nat.add_mod, h]

/-! ## A character's outcome (R26) -/

/-- What a character's data and class bits say, once stop bit and parity are right (R24, R26). -/
def outcomeOfNine (nine : BitVec 9) : CharOutcome :=
  if nine.getLsbD 8 then
    match controlOf (nine.extractLsb' 0 8) with
    | some c => .good (.control c)
    | none => .faulted
  else .good (.data (nine.extractLsb' 0 8))

theorem classify_eq (x : BitVec 12) :
    classify x =
      if x.getLsbD 11 = false then .faulted
      else if oddOnes (x.extractLsb' 1 9) = x.getLsbD 10 then .faulted
      else outcomeOfNine (x.extractLsb' 1 9) := by
  have hclass : (x.extractLsb' 1 9).getLsbD 8 = x.getLsbD 9 := by simp
  have hcode : (x.extractLsb' 1 9).extractLsb' 0 8 = x.extractLsb' 1 8 := by
    ext i hi
    simp [show i < 9 by omega]
  unfold classify outcomeOfNine
  rw [hclass, hcode]
  simp only [Bool.not_eq_true', beq_iff_eq] <;> rfl

/-- The eight data bits by value. -/
theorem extract_code_eq (x : BitVec 12) : x.extractLsb' 1 8 = BitVec.ofNat 8 (x.toNat / 2 % 256) := by
  apply BitVec.eq_of_toNat_eq
  simp [Nat.shiftRight_eq_div_pow]

theorem controlOf_eq_none_iff (code : Byte) :
    controlOf code = none ↔ code ≠ 0xA5 ∧ code ≠ 0x5A ∧ code ≠ 0x96 ∧ code ≠ 0x69 := by
  unfold controlOf
  split_ifs <;> simp_all

/-- A code names a control character exactly where it is that character's code (R24). -/
theorem controlOf_eq_some_iff (code : Byte) (c : ControlChar) : controlOf code = some c ↔ code = c.code := by
  cases c <;> unfold controlOf ControlChar.code <;> split_ifs <;> simp_all

/-- The data and class bits that say a character are that character's own. -/
theorem outcomeOfNine_eq_good_iff (nine : BitVec 9) (c : LineChar) : outcomeOfNine nine = .good c ↔ nine = c.nine := by
  have hsplit : ∀ m : BitVec 9, nine = m ↔
      nine.extractLsb' 0 8 = m.extractLsb' 0 8 ∧ nine.getLsbD 8 = m.getLsbD 8 := by
    intro m
    refine ⟨fun h => h ▸ ⟨rfl, rfl⟩, fun ⟨hcode, hclass⟩ => ?_⟩
    ext i hi
    rcases Nat.lt_or_ge i 8 with h8 | h8
    · have := congrArg (fun b : Byte => b.getLsbD i) hcode
      simpa [h8, hi] using this
    · obtain rfl : i = 8 := by omega
      simpa using hclass
  unfold outcomeOfNine
  cases c with
  | data b =>
    have hcode : (b.zeroExtend 9).extractLsb' 0 8 = b := by
      ext i hi
      simp [hi, show i < 9 by omega]
    have hclass : (b.zeroExtend 9).getLsbD 8 = false := by simp
    rw [LineChar.nine, hsplit, hcode, hclass]
    cases nine.getLsbD 8
    · simp
    · cases controlOf (nine.extractLsb' 0 8) <;> simp
  | control c =>
    have hcode : (LineChar.control c).nine.extractLsb' 0 8 = c.code := by cases c <;> decide
    have hclass : (LineChar.control c).nine.getLsbD 8 = true := by cases c <;> decide
    rw [hsplit, hcode, hclass, ← controlOf_eq_some_iff]
    cases nine.getLsbD 8
    · simp
    · cases controlOf (nine.extractLsb' 0 8) <;> simp

/-! ## A character as it is sent (R22, R211) -/

/-- The twelve bits of a sent character: start, data and class, odd parity, stop. -/
theorem encode_getLsbD (c : LineChar) (i : Nat) (hi : i < 12) :
    c.encode.getLsbD i =
      if i = 0 then false else if i ≤ 9 then c.nine.getLsbD (i - 1) else if i = 10 then !oddOnes c.nine else true := by
  unfold LineChar.encode
  rcases Nat.lt_or_ge i 10 with h | h
  · have hparity : (if oddOnes c.nine = true then (0 : BitVec 12) else 0x400).getLsbD i = false := by
      split
      · simp
      · clear hi
        revert i; decide
    have hstop : (0x800 : BitVec 12).getLsbD i = false := by
      clear hparity hi
      revert i; decide
    simp only [BitVec.getLsbD_or, hparity, hstop, Bool.or_false, BitVec.getLsbD_shiftLeft]
    by_cases h0 : i = 0
    · simp [h0]
    · simp [h0, hi, show i ≤ 9 by omega, show ¬ i < 1 by omega, show i - 1 < 12 by omega]
  · have hnine : (c.nine.zeroExtend 12 <<< 1).getLsbD i = false := by
      simp only [BitVec.getLsbD_shiftLeft, BitVec.truncate_eq_setWidth, BitVec.getLsbD_setWidth]
      rw [BitVec.getLsbD_of_ge _ _ (by omega : 9 ≤ i - 1)]
      simp
    simp only [BitVec.getLsbD_or, hnine, Bool.false_or]
    obtain rfl | rfl : i = 10 ∨ i = 11 := by omega
    · cases oddOnes c.nine <;> rfl
    · cases oddOnes c.nine <;> rfl

theorem encode_start (c : LineChar) : c.encode.getLsbD 0 = false := encode_getLsbD c 0 (by decide)

theorem encode_parity (c : LineChar) : c.encode.getLsbD 10 = !oddOnes c.nine := encode_getLsbD c 10 (by decide)

theorem encode_stop (c : LineChar) : c.encode.getLsbD 11 = true := encode_getLsbD c 11 (by decide)

theorem encode_nine (c : LineChar) : c.encode.extractLsb' 1 9 = c.nine := by
  ext i hi
  rw [← BitVec.getLsbD_eq_getElem, ← BitVec.getLsbD_eq_getElem, BitVec.getLsbD_extractLsb', Nat.add_comm,
    encode_getLsbD c (i + 1) (by omega)]
  simp [hi, show i + 1 ≤ 9 by omega]

/-- Twelve bits are those of a sent character exactly where each of its four parts is. -/
theorem eq_encode_iff (x : BitVec 12) (c : LineChar) :
    x = c.encode ↔ x.getLsbD 0 = false ∧ x.extractLsb' 1 9 = c.nine ∧ x.getLsbD 10 = (!oddOnes c.nine) ∧
      x.getLsbD 11 = true := by
  refine ⟨fun h => h ▸ ⟨encode_start c, encode_nine c, encode_parity c, encode_stop c⟩, ?_⟩
  rintro ⟨hstart, hnine, hparity, hstop⟩
  refine BitVec.eq_of_getLsbD_eq fun i hi => ?_
  rw [encode_getLsbD c i hi]
  split_ifs with h0 h9 h10
  · rw [h0, hstart]
  · rw [← hnine, BitVec.getLsbD_extractLsb', show 1 + (i - 1) = i by omega]
    simp [show i - 1 < 9 by omega]
  · rw [h10, hparity]
  · obtain rfl : i = 11 := by omega
    exact hstop

/-- A character, its start bit at space, is taken as the one whose twelve bits it has, and as no other (R26). -/
theorem classify_eq_good_iff (c : LineChar) (x : BitVec 12) (hstart : x.getLsbD 0 = false) :
    classify x = .good c ↔ x = c.encode := by
  rw [classify_eq, eq_encode_iff, ← outcomeOfNine_eq_good_iff]
  split_ifs with hstop hparity
  · refine ⟨nofun, fun ⟨_, _, _, hset⟩ => ?_⟩
    rw [hset] at hstop
    cases hstop
  · refine ⟨nofun, fun ⟨_, hgood, hodd, _⟩ => ?_⟩
    rw [outcomeOfNine_eq_good_iff] at hgood
    rw [hgood, hodd] at hparity
    cases h : oddOnes c.nine <;> simp [h] at hparity
  · refine ⟨fun hgood => ⟨hstart, hgood, ?_, by simpa using hstop⟩, fun ⟨_, hgood, _, _⟩ => hgood⟩
    rw [outcomeOfNine_eq_good_iff] at hgood
    rw [hgood] at hparity
    exact Bool.eq_not_of_ne (Ne.symm hparity)

theorem classify_encode (c : LineChar) : classify c.encode = .good c :=
  (classify_eq_good_iff c _ (encode_start c)).mpr rfl

/-- Settles O36: the tests of R26 in their order, with the parity test as a count of 1s; and the four parts of a sent
character. -/
theorem characterOutcome : Obligations.CharacterOutcome := by
  refine ⟨fun x => ?_, fun c x => classify_eq_good_iff c x⟩
  intro ones code
  have hcode : (x.extractLsb' 1 9).extractLsb' 0 8 = code := by
    refine Eq.trans ?_ (extract_code_eq x)
    ext i hi
    simp [show i < 9 by omega]
  have hclass : (x.extractLsb' 1 9).getLsbD 8 = x.getLsbD 9 := by simp
  refine ⟨fun hstop => ?_, fun heven => ?_, fun hstop hodd => ?_⟩
  · rw [classify_eq, if_pos hstop]
  · have hparity : oddOnes (x.extractLsb' 1 9) = x.getLsbD 10 := by
      by_contra hne
      have hodd : ones % 2 = 1 := (ones_odd_iff x).mpr hne
      omega
    rw [classify_eq, if_pos hparity, ite_self]
  · have htests : classify x = outcomeOfNine (x.extractLsb' 1 9) := by
      rw [classify_eq, if_neg (by simp [hstop]), if_neg ((ones_odd_iff x).mp hodd)]
    have hcontrol : ∀ c : ControlChar, x.getLsbD 9 = true → code = c.code → classify x = .good (.control c) := by
      intro c hset hc
      rw [htests, outcomeOfNine, hclass, hset, if_pos rfl, hcode, (controlOf_eq_some_iff code c).mpr hc]
    refine ⟨fun hdata => ?_, fun hset h1 h2 h3 h4 => ?_, hcontrol .idle, hcontrol .sop, hcontrol .eop, hcontrol .abort⟩
    · rw [htests, outcomeOfNine, hclass, hdata, hcode]
      rfl
    · rw [htests, outcomeOfNine, hclass, hset, if_pos rfl, hcode, (controlOf_eq_none_iff code).mpr ⟨h1, h2, h3, h4⟩]

end Sys2Proof.Machine
end

section
/-! The family of chapter 2: the rules of the receive side, and what a Line Unit does at a reset, a LINE LIMITS write, a character
in HUNT and a character that ends a parcel. -/

namespace Sys2Proof.Machine
open Sys2Proof.Safety

/-! ## One link changed -/

theorem Quad.set_get_self {α : Type} (q : Quad α) (n : LinkId) : q.set n (q.get n) = q := by
  unfold Quad.get Quad.set; fin_cases n <;> rfl

theorem Quad.set_set {α : Type} (q : Quad α) (n : LinkId) (a b : α) : (q.set n a).set n b = q.set n b := by
  unfold Quad.set; fin_cases n <;> rfl

theorem Quad.ext_get {α : Type} {p q : Quad α} (h : ∀ n, p.get n = q.get n) : p = q := by
  obtain ⟨a0, a1, a2, a3⟩ := p
  obtain ⟨b0, b1, b2, b3⟩ := q
  obtain rfl : a0 = b0 := h 0
  obtain rfl : a1 = b1 := h 1
  obtain rfl : a2 = b2 := h 2
  obtain rfl : a3 = b3 := h 3
  rfl

theorem modLink_congr {n : LinkId} {f g : Link → Link} {s : State} (h : f (s.link n) = g (s.link n)) :
    s.modLink n f = s.modLink n g := by
  change f (s.links.get n) = g (s.links.get n) at h
  unfold State.modLink
  rw [h]

/-- A change that leaves a link as it is leaves the part as it is. -/
theorem modLink_eq_self {n : LinkId} {f : Link → Link} {s : State} (h : f (s.link n) = s.link n) : s.modLink n f = s := by
  change f (s.links.get n) = s.links.get n at h
  unfold State.modLink
  rw [h, Quad.set_get_self]

theorem modLink_modLink (n : LinkId) (f g : Link → Link) (s : State) :
    (s.modLink n f).modLink n g = s.modLink n fun l => g (f l) := by
  unfold State.modLink
  simp only [Quad.get_set_same, Quad.set_set]

/-! ## What a character says about the line (R23, R28, R29, R41) -/

/-- A good character, as `heard` says it (R28, R29). -/
theorem goodCharacter_eq (n : LinkId) (s : State) : s.goodCharacter n = s.modLink n (heard 1) := by
  have hrun : min Config.goodRun ((s.lu n).run + 1) = min 16 ((s.lu n).run + 1) := rfl
  unfold State.goodCharacter
  simp only [hrun]
  have hreached : min 16 ((s.lu n).run + 1) = Config.goodRun ↔ 16 ≤ (s.link n).lu.run + 1 := by
    change min 16 ((s.link n).lu.run + 1) = 16 ↔ _
    omega
  split
  · rename_i h
    obtain ⟨hfull, hdown⟩ := h
    change (s.link n).lu.lineState = .down at hdown
    refine ((congrArg (State.setEvent n .lineUp) (modLink_modLink n _ _ s)).trans (modLink_modLink n _ _ s)).trans ?_
    refine modLink_congr ?_
    simp [heard, hreached.mp hfull, hdown, LinkEvent.bit, State.lu]
  · rename_i h
    refine modLink_congr ?_
    by_cases hfull : 16 ≤ (s.link n).lu.run + 1
    · have hup : (s.link n).lu.lineState = .up := by
        cases hstate : (s.link n).lu.lineState with
        | up => rfl
        | down => exact absurd ⟨hreached.mpr hfull, hstate⟩ h
      simp [heard, hfull, hup, State.lu]
    · simp [heard, hfull, State.lu]

/-- The gap timer's restart, as `gapRestarted` says it (R41). -/
theorem startGap_eq (n : LinkId) (s : State) : s.modLU n LineUnit.startGap = s.modLink n gapRestarted := by
  refine modLink_congr ?_
  unfold gapRestarted receivedBitTime LineUnit.startGap LineUnit.rxBitTime RxPhase.bitTimeOr LineUnit.bitTime charTimeOf
    Config.charBits
  cases (s.link n).lu.rx.phase <;> rfl

theorem toHunt_eq (n : LinkId) (s : State) : s.modLU n LineUnit.toHunt = s.modLink n (recordIs {}) := rfl

/-- An SOP, as `parcelOpened` says it (R37, R51). -/
theorem openParcel_eq (n : LinkId) (s : State) : s.modLU n LineUnit.openParcel = s.modLink n parcelOpened := by
  refine modLink_congr ?_
  unfold parcelOpened gapRestarted recordIs receivedBitTime LineUnit.openParcel LineUnit.startGap LineUnit.rxBitTime
    RxPhase.bitTimeOr LineUnit.bitTime charTimeOf Config.charBits
  cases (s.link n).lu.rx.phase <;> rfl

/-! ## A character on a quiet line (R25-R27, R46) -/

/-- RXD at mark changes nothing where no character is held and no break is present (R27). -/
theorem atMark_eq_self {n : LinkId} {s : State} (hheld : (s.lu n).heldSpace = false)
    (hbreak : (s.lu n).breakPresent = false) : s.atMark n = s := by
  unfold State.atMark
  rw [if_neg (by simp [hheld])]
  refine modLink_eq_self ?_
  change (s.link n).lu.breakPresent = false at hbreak
  rw [← hbreak]

theorem exec_receiveCharacter_of_quiet {n : LinkId} {s : State} (h : Quiet s n) (x : BitVec 12) :
    exec (.receiveCharacter n x) s = .next
      (if x.getLsbD 0 = true then s
        else if x = 0 then s.modLU n fun u => { u with heldSpace := true } else s.recognised n (classify x)) := by
  obtain ⟨hheld, hbreak, hlost⟩ := h
  have hstays : ¬ (s.lu n).rx.lost = some x := by simp [hlost]
  simp only [exec, execReceiveCharacter, if_neg hstays, State.receiveSamples, atMark_eq_self hheld hbreak, falseStart, allSpace,
    beq_iff_eq]

/-- A character as a transmitter sends it has the effect of that character (R26). -/
theorem exec_receiveCharacter_encode {n : LinkId} {s : State} (h : Quiet s n) (c : LineChar) :
    exec (.receiveCharacter n c.encode) s = .next (s.recognised n (.good c)) := by
  have hstart : ¬ c.encode.getLsbD 0 = true := by rw [encode_start]; decide
  have hstop : c.encode ≠ 0 := by
    intro hzero
    have hset := encode_stop c
    rw [hzero] at hset
    exact absurd hset (by decide)
  rw [exec_receiveCharacter_of_quiet h, if_neg hstart, if_neg hstop, classify_encode]

/-- A good character in HUNT (R28, R37). -/
theorem exec_receiveCharacter_in_hunt {n : LinkId} {s : State} (h : Quiet s n) (hphase : (s.lu n).record.phase = .hunt)
    (c : LineChar) :
    exec (.receiveCharacter n c.encode) s = .next ((s.modLink n (heard 1)).huntCharacter n c) := by
  have hhunt : ¬ s.inParcel n = true := by simp [State.inParcel, hphase]
  rw [exec_receiveCharacter_encode h, State.recognised]
  simp only [if_neg hhunt, goodCharacter_eq]

/-- A good character in a parcel, the gap timer restarted (R28, R41). -/
theorem exec_receiveCharacter_in_parcel {n : LinkId} {s : State} (h : Quiet s n)
    (hphase : (s.lu n).record.phase = .inParcel) (c : LineChar) :
    exec (.receiveCharacter n c.encode) s =
      .next ((s.modLink n fun l => gapRestarted (heard 1 l)).parcelCharacter n c) := by
  have hparcel : s.inParcel n = true := by simp [State.inParcel, hphase]
  rw [exec_receiveCharacter_encode h, State.recognised]
  simp only [if_pos hparcel, goodCharacter_eq, startGap_eq, modLink_modLink]

/-! ## The end of a parcel (R15, R40) -/

/-- A release arms the watermark condition where the free block count has reached the watermark (R18). -/
theorem armed_rearm (s : State) : s.rearm.armed = (s.armed || decide (s.watermark ≤ s.freeBlocks.length)) := by
  unfold State.rearm
  split
  · rename_i hreached
    rw [decide_eq_true hreached, Bool.or_true]
  · rename_i hbelow
    rw [decide_eq_false hbelow, Bool.or_false]

/-- A release of a descriptor that is not FREE, as `Released` says it (R15, R17, R18). -/
theorem released_releaseToFree {s : State} {d : DescId} (h : (s.desc d).state ≠ .free) :
    Released d s (s.releaseToFree d) := by
  unfold State.releaseToFree
  rw [if_neg h]
  refine ⟨by simp, by simp, by simp, fun x hx => ?_, by simp, by simp, by simp [armed_rearm, State.setDesc], fun m => ?_⟩
  · rw [State.desc_reevaluate, State.desc_rearm, State.desc_setDesc, if_neg hx]
    rfl
  · rw [State.link_reevaluate, updateDue_reevaluate, State.link_rearm]
    rfl

theorem releasedOnly_releaseToFree {s : State} {d : DescId} (h : (s.desc d).state ≠ .free) :
    ReleasedOnly d s (s.releaseToFree d) := by
  refine ⟨released_releaseToFree h, ?_⟩
  unfold State.releaseToFree State.rearm
  rw [if_neg h]
  split <;> rfl

/-- A parcel that is dropped: its descriptor, if any, is released, the record returns to HUNT, the drop is counted (R40, R42). -/
theorem dropped_of_releaseRecord {n : LinkId} {s : State} (cause : DropCause)
    (h : ∀ d, (s.lu n).record.descriptor = some d → (s.desc d).state ≠ .free) :
    Dropped n cause.counter s (((s.releaseRecord n).modLU n LineUnit.toHunt).reportDrop n cause) := by
  refine ⟨s.releaseRecord n, ?_, rfl⟩
  unfold State.releaseRecord
  cases hd : (s.lu n).record.descriptor with
  | none => rfl
  | some d => exact releasedOnly_releaseToFree (h d hd)

theorem dropped_abandon {n : LinkId} {s : State} (cause : DropCause)
    (h : ∀ d, (s.lu n).record.descriptor = some d → (s.desc d).state ≠ .free) :
    Dropped n cause.counter s (s.abandon n cause) := dropped_of_releaseRecord cause h

theorem droppedIfOpen_abandonIfOpen {n : LinkId} {s : State} (cause : DropCause)
    (h : ∀ d, (s.lu n).record.descriptor = some d → (s.desc d).state ≠ .free) :
    DroppedIfOpen n cause.counter s (s.abandonIfOpen n cause) := by
  unfold DroppedIfOpen State.abandonIfOpen State.inParcel
  by_cases hphase : (s.lu n).record.phase = .inParcel
  · rw [if_pos hphase, if_pos (by simp [hphase])]
    exact dropped_abandon cause h
  · rw [if_neg hphase, if_neg (by simpa using hphase)]

/-! ## Characters in HUNT -/

theorem abandonIfOpen_eq_self {n : LinkId} {s : State} (h : (s.lu n).record.phase = .hunt) (cause : DropCause) :
    s.abandonIfOpen n cause = s := if_neg (by simp [State.inParcel, h])

/-- The count of a character fault leaves every Line Unit alone. -/
@[simp] theorem lu_count (n m : LinkId) (c : Counter) (s : State) : (s.count n c).lu m = s.lu m := by
  unfold State.count State.bump State.setHalf State.lu
  split <;> simp only [State.link_setGlobal, State.link_modLink] <;> split <;> rename_i h <;> simp [h]

/-- Settles O38: each kind of character in HUNT by its branch. -/
theorem charactersInHunt : Obligations.CharactersInHunt := by
  intro n s hquiet hphase
  refine ⟨fun x hmark => ?_, ?_, fun x hstart hzero hfault => ?_, ?_, ?_, fun c hidle hsop => ?_⟩
  · rw [exec_receiveCharacter_of_quiet hquiet, if_pos hmark]
  · rw [exec_receiveCharacter_of_quiet hquiet]
    rfl
  · rw [exec_receiveCharacter_of_quiet hquiet, if_neg (by rw [hstart]; decide), if_neg hzero, hfault,
      State.recognised]
    refine congrArg _ (abandonIfOpen_eq_self ?_ _)
    rw [State.faultedCharacter, lu_count, State.lu_modLU_same]
    exact hphase
  · exact exec_receiveCharacter_in_hunt hquiet hphase _
  · rw [exec_receiveCharacter_in_hunt hquiet hphase, State.huntCharacter, openParcel_eq, modLink_modLink]
  · rw [exec_receiveCharacter_in_hunt hquiet hphase]
    cases c with
    | data b => rfl
    | control c =>
      cases c with
      | idle => exact absurd rfl hidle
      | sop => exact absurd rfl hsop
      | eop => rfl
      | abort => rfl

/-! ## Characters that end a parcel -/

/-- Settles O39: each of these characters is an abandonment with its cause; an SOP then opens the next parcel. -/
theorem charactersThatEndAParcel : Obligations.CharactersThatEndAParcel := by
  intro n s hquiet hphase hassembling
  have hstored : ∀ d, ((s.modLink n fun l => gapRestarted (heard 1 l)).lu n).record.descriptor = some d →
      ((s.modLink n fun l => gapRestarted (heard 1 l)).desc d).state ≠ .free := by
    intro d hd
    have hrecord : ((s.modLink n fun l => gapRestarted (heard 1 l)).lu n).record = (s.lu n).record := by
      unfold State.lu
      rw [State.link_modLink_same]
      rfl
    rw [hrecord] at hd
    rw [State.desc_modLink, hassembling d hd]
    decide
  refine ⟨fun x hmark => ?_, ?_, fun x hstart hzero hfault =>
    ⟨(s.faultedCharacter n).abandonIfOpen n .charFault, ?_, ?_⟩, fun c hc => ?_,
    (s.modLink n fun l => gapRestarted (heard 1 l)).abandon n .truncated, ?_, ?_⟩
  · rw [exec_receiveCharacter_of_quiet hquiet, if_pos hmark]
  · rw [exec_receiveCharacter_of_quiet hquiet]
    rfl
  · rw [exec_receiveCharacter_of_quiet hquiet, if_neg (by rw [hstart]; decide), if_neg hzero, hfault]
    rfl
  · have hopen : (s.faultedCharacter n).inParcel n = true := by
      simp [State.inParcel, State.faultedCharacter, hphase]
    change Dropped n .dropLine (s.faultedCharacter n) _
    rw [State.abandonIfOpen, if_pos hopen]
    refine dropped_abandon .charFault fun d hd => ?_
    have hrecord : ((s.faultedCharacter n).lu n).record = (s.lu n).record := by simp [State.faultedCharacter]
    rw [hrecord] at hd
    have hdesc : (s.faultedCharacter n).desc d = s.desc d := by simp [State.faultedCharacter]
    rw [hdesc, hassembling d hd]
    decide
  · rcases hc with rfl | rfl
    · exact ⟨_, exec_receiveCharacter_in_parcel hquiet hphase _, dropped_abandon .truncated hstored⟩
    · exact ⟨_, exec_receiveCharacter_in_parcel hquiet hphase _, dropped_abandon .aborted hstored⟩
  · rw [exec_receiveCharacter_in_parcel hquiet hphase, State.parcelCharacter, openParcel_eq]
  · exact dropped_abandon .truncated hstored

/-! ## LINE LIMITS (R31) -/

theorem clamp_one (hi v : Nat) (h : 1 ≤ hi) : clamp 1 hi v = if v = 0 then 1 else if hi < v then hi else v := by
  unfold clamp; split_ifs <;> omega

theorem gapOver_iff (u : LineUnit) :
    u.gapOver = true ↔ ∃ g, u.gapTimer = some g ∧ u.gapLimit * g.charTime ≤ g.elapsed := by
  simp [LineUnit.gapOver, GapTimer.over, Option.any_eq_true]

theorem lossOver_iff (u : LineUnit) : u.lossOver = true ↔ ∃ c, u.lossTimer = some c ∧ u.lossLimit ≤ c := by
  simp [LineUnit.lossOver, Option.any_eq_true]

/-- Settles O16: the write judges the timer by the test of its expiry row, on the limit just stored. -/
theorem lineLimitsWriteTakesEffectAtOnce : Obligations.LineLimitsWriteTakesEffectAtOnce := by
  intro w s
  constructor
  · intro v written
    have hwrite : exec (.lineLimitsWrite .gap w) s =
        .next (if (written.lu s.linkSelect).gapOver = true then written.gapExpires s.linkSelect else written) := by
      simp only [exec, execLineLimitsWrite, State.writeGapLimit, clamp_one 255 w.toNat (by decide)]
      rfl
    have hover : (written.lu s.linkSelect).gapOver = true ↔
        ∃ g, (s.lu s.linkSelect).gapTimer = some g ∧ v * g.charTime ≤ g.elapsed := by
      simp only [gapOver_iff, written, State.lu_modLU_same]
    rw [hwrite]
    by_cases h : (written.lu s.linkSelect).gapOver = true
    · simp only [exec, execGapTimerExpiry, if_pos h, if_pos (hover.mp h)]
    · rw [if_neg h, if_neg fun hdue => h (hover.mpr hdue)]
  · intro v written
    have hclamp : clamp 1 65535 w.toNat = v := by
      have hword := w.isLt
      rw [clamp_one 65535 w.toNat (by decide)]
      simp only [v]
      split_ifs <;> omega
    have hwrite : exec (.lineLimitsWrite .lineLoss w) s =
        .next (if (written.lu s.linkSelect).lossOver = true then written.lineLossExpires s.linkSelect else written) := by
      simp only [exec, execLineLimitsWrite, State.writeLossLimit, hclamp]
      rfl
    have hover : (written.lu s.linkSelect).lossOver = true ↔
        ∃ c, (s.lu s.linkSelect).lossTimer = some c ∧ v ≤ c := by
      simp only [lossOver_iff, written, State.lu_modLU_same]
    rw [hwrite]
    by_cases h : (written.lu s.linkSelect).lossOver = true
    · simp only [exec, execLineLossExpiry, if_pos h, if_pos (hover.mp h)]
    · rw [if_neg h, if_neg fun hdue => h (hover.mpr hdue)]

/-! ## The resets (R27, R36, R46) -/

/-- The Line Unit of a device-wide reset with RXD at `level`, the recogniser before it being `r`. -/
def resetLine (level : Bool) (r : Receiver) : LineUnit := { LineUnit.reset with rx := r.atReset level }

/-- What the clock put into the queue before a reset, a character and a break apart, finds nothing to do after it (R46; log
entry 22). -/
theorem waiting_event_after_reset {t : State} {n : LinkId} {level : Bool} {r : Receiver}
    (hlink : t.link n = { Link.reset with lu := resetLine level r }) :
    ∀ i ∈ [.rxdReturnsToMark n, .lineLossExpiry n, .gapTimerExpiry n, .controlExpiry n, .resendExpiry n, .queryExpiry n,
      .receiptHoldExpiry n, .transmitChoice n, .transmissionEnd n, .abortEnd n, .transmitterFillStart n],
      exec i t = .next t := by
  have hlu : t.lu n = resetLine level r := by unfold State.lu; rw [hlink]
  have hle : t.le n = LinkEngine.reset := by unfold State.le; rw [hlink]; rfl
  have hstopped : ∀ mode, t.expireIn n mode = t := fun mode =>
    expireIn_eq_self n mode t fun u hu => by rw [hle] at hu; exact nomatch hu
  have hmark : exec (.rxdReturnsToMark n) t = .next t :=
    congrArg _ (atMark_eq_self (by rw [hlu]; rfl) (by rw [hlu]; rfl))
  have hline : exec (.lineLossExpiry n) t = .next t ∧ exec (.gapTimerExpiry n) t = .next t := by
    simp only [exec, execLineLossExpiry, execGapTimerExpiry, hlu]
    exact ⟨rfl, rfl⟩
  have hhold : exec (.receiptHoldExpiry n) t = .next t := by
    simp only [exec, execReceiptHoldExpiry, hle]
    rfl
  have htransmitter : exec (.transmitChoice n) t = .next t ∧ exec (.transmissionEnd n) t = .next t ∧
      exec (.abortEnd n) t = .next t ∧ exec (.transmitterFillStart n) t = .next t := by
    simp only [exec, execTransmitChoice, execTransmissionEnd, execAbortEnd, execTransmitterFillStart, hlu]
    exact ⟨rfl, rfl, rfl, rfl⟩
  obtain ⟨hchoice, hend, habort, hfill⟩ := htransmitter
  simp only [List.forall_mem_cons]
  exact ⟨hmark, hline.1, hline.2, congrArg _ (hstopped .control), congrArg _ (hstopped .resend), congrArg _ (hstopped .query),
    hhold, hchoice, hend, habort, hfill, by simp⟩

/-- The character whose stop bit was sampled in the period of a reset is lost (R46; log entry 22). -/
theorem lost_character_after_reset {t : State} {n : LinkId} {level : Bool} {r : Receiver} {b : Nat} {x : BitVec 12}
    (hlu : t.lu n = resetLine level r) (hphase : r.phase = .receiving b (11 * b + b / 2) x) :
    exec (.receiveCharacter n x) t = .next t := by
  have hlost : (t.lu n).rx.lost = some x := by
    rw [hlu]
    change r.phase.recognised.or r.lost = some x
    rw [hphase]
    exact congrArg (Option.or · r.lost) (if_pos rfl)
  simp only [exec, execReceiveCharacter, if_pos hlost]

/-- A space measured since a reset is no break yet (R27; log entry 22). -/
theorem break_after_reset {t : State} {n : LinkId} {r : Receiver} (hlu : t.lu n = resetLine false r) :
    exec (.lineBreak n) t = .next t := by
  simp only [exec, execLineBreak, hlu]
  rfl

/-- Settles O8: both resets leave each link with `resetLine`. -/
theorem resetsReturnLineUnits : Obligations.ResetsReturnLineUnits := by
  intro c s hc
  obtain ⟨t, hexec, hlinks, hrxd⟩ : ∃ t, exec c s = .next t ∧ (∀ n, t.link n = s.deviceWide.link n) ∧ t.rxd = s.rxd := by
    rcases hc with rfl | ⟨l, rfl⟩
    · exact ⟨_, rfl, fun _ => rfl, rfl⟩
    · exact ⟨_, rfl, fun _ => rfl, rfl⟩
  refine ⟨t, hexec, fun n => ?_⟩
  have hlink : t.link n = { Link.reset with lu := resetLine (s.rxd.get n).level (s.lu n).rx } := by
    rw [hlinks, link_deviceWide]
    rfl
  have hlu : t.lu n = resetLine (s.rxd.get n).level (s.lu n).rx := by unfold State.lu; rw [hlink]; rfl
  have hwaiting := waiting_event_after_reset hlink
  have hlost : ∀ b x, (s.lu n).rx.phase = .receiving b (11 * b + b / 2) x → exec (.receiveCharacter n x) t = .next t :=
    fun b x hphase => lost_character_after_reset hlu hphase
  refine ⟨by rw [hlu]; rfl, by rw [hlu]; rfl, by rw [hlu]; rfl, by rw [hlu]; rfl, by rw [hlu]; rfl, by rw [hlu]; rfl,
    by rw [hlu]; rfl, by rw [hlu]; rfl, by rw [hlu]; rfl, by rw [hlu]; rfl, by rw [hlu]; rfl, by rw [hlu]; rfl,
    by rw [hlu]; rfl, by rw [hlu]; rfl, hrxd, fun hmark => ?_, fun hspace => ?_, hlost, hwaiting⟩
  · rw [hlu, hmark]
    exact ⟨rfl, rfl⟩
  · rw [hspace] at hlu
    exact ⟨by rw [hlu]; rfl, by rw [hlu]; rfl, break_after_reset hlu⟩

end Sys2Proof.Machine
end

section
/-! The family of chapter 2: data bytes in a parcel, the storage decision, and the EOP (R38, R39, R42). -/

namespace Sys2Proof.Machine
open Sys2Proof.Safety

/-! ## A data byte taken -/

/-- A link whose receive record is `r`, its gap timer as it was. -/
def withRecord (r : RxRecord) (l : Link) : Link := { l with lu := { l.lu with record := r } }

/-- Link `n` after `k` good characters in a parcel, its receive record being `r` (R28, R41). -/
def State.heardParcel (n : LinkId) (k : Nat) (r : RxRecord) (s : State) : State :=
  s.modLink n fun l => withRecord r (gapRestarted (heard k l))

theorem link_heardParcel (n : LinkId) (k : Nat) (r : RxRecord) (s : State) :
    (s.heardParcel n k r).link n = withRecord r (gapRestarted (heard k (s.link n))) := State.link_modLink_same _ _ _

theorem record_heardParcel (n : LinkId) (k : Nat) (r : RxRecord) (s : State) :
    ((s.heardParcel n k r).lu n).record = r := by
  unfold State.lu
  rw [link_heardParcel]
  rfl

theorem le_heardParcel (n : LinkId) (k : Nat) (r : RxRecord) (s : State) : (s.heardParcel n k r).le n = s.le n := by
  unfold State.le
  rw [link_heardParcel]
  rfl

/-- The record after a data byte, before *storage* is decided (R38, R49, R51). -/
def RxRecord.takeByte (r : RxRecord) (b : Byte) : RxRecord :=
  { r.takeHeader r.count b with count := min 255 (r.count + 1), check := checkByte r.check b }

theorem storage_takeHeader (r : RxRecord) (i : Nat) (b : Byte) : (r.takeHeader i b).storage = r.storage := by
  unfold RxRecord.takeHeader
  split
  · rfl
  · split <;> rfl

theorem kind_takeHeader (r : RxRecord) (i : Nat) (b : Byte) (h : i ≠ 0) : (r.takeHeader i b).kind = r.kind := by
  unfold RxRecord.takeHeader
  rw [if_neg h]
  split <;> rfl

theorem record_gapRestarted_heard (n : LinkId) (k : Nat) (s : State) :
    ((s.modLink n fun l => gapRestarted (heard k l)).lu n).record = (s.lu n).record := by
  unfold State.lu
  rw [State.link_modLink_same]
  rfl

/-- A data byte in a parcel: the line state and the gap timer, the record, then *storage* and the payload (R38, R39, R41). -/
theorem exec_receiveCharacter_data {n : LinkId} {s : State} (h : Quiet s n) (hphase : (s.lu n).record.phase = .inParcel)
    (b : Byte) :
    exec (.receiveCharacter n (LineChar.data b).encode) s =
      .next (((s.heardParcel n 1 ((s.lu n).record.takeByte b)).storageAt n (s.lu n).record.count b).storePayload n
        (s.lu n).record.count b) := by
  have htaken : (s.modLink n fun l => gapRestarted (heard 1 l)).modLU n (fun u =>
      { u with record := { u.record.takeHeader (s.lu n).record.count b with
        count := min 255 ((s.lu n).record.count + 1), check := checkByte u.record.check b } }) =
      s.heardParcel n 1 ((s.lu n).record.takeByte b) :=
    (modLink_modLink n _ _ s).trans (modLink_congr rfl)
  rw [exec_receiveCharacter_in_parcel h hphase, State.parcelCharacter, State.takeByte, record_gapRestarted_heard]
  exact congrArg (fun t : State => Host.Outcome.next ((t.storageAt n (s.lu n).record.count b).storePayload n
    (s.lu n).record.count b)) htaken

/-! ## Storage and payload, by the record (R38) -/

/-- A byte that is neither the first of a parcel nor the *length* byte of DATA decides nothing. -/
theorem storageAt_eq_self {n : LinkId} {i : Nat} {b : Byte} {s : State}
    (hfirst : (s.lu n).record.kind ≠ some (.named .data) → i ≠ 0)
    (hlength : (s.lu n).record.kind = some (.named .data) → i ≠ 2) : s.storageAt n i b = s := by
  unfold State.storageAt
  split
  · rename_i hkind
    exact absurd rfl (hlength hkind)
  · rfl
  · rename_i k hk hkind
    exact absurd rfl (hfirst fun hdata => by
      rw [hkind] at hdata
      cases hdata
      exact hk rfl)
  · rename_i hkind
    exact absurd rfl (hfirst (by rw [hkind]; exact nofun))
  · rfl

/-- Only a stored parcel has payload bytes written. -/
theorem storePayload_eq_self {n : LinkId} {i : Nat} {b : Byte} {s : State}
    (h : (s.lu n).record.storage ≠ some .storing) : s.storePayload n i b = s := by
  unfold State.storePayload
  dsimp only
  split
  · rename_i hstorage _ _
    exact absurd hstorage h
  · rfl

/-- Storage decided on a link that has heard a data byte. -/
theorem setStorage_heardParcel (n : LinkId) (k : Nat) (r : RxRecord) (storage : Storage) (d : Option DescId) (s : State) :
    (s.heardParcel n k r).setStorage n storage d = s.heardParcel n k { r with storage := some storage, descriptor := d } := by
  unfold State.setStorage State.heardParcel State.modLU
  rw [modLink_modLink]
  rfl

/-- A data byte that decides no storage and is not stored: the record takes it and nothing else happens. -/
theorem exec_receiveCharacter_data_plain {n : LinkId} {s : State} {b : Byte} {r' : RxRecord} (h : Quiet s n)
    (hphase : (s.lu n).record.phase = .inParcel) (hbecomes : (s.lu n).record.takeByte b = r')
    (hstorage : r'.storage ≠ some .storing) (hfirst : r'.kind ≠ some (.named .data) → (s.lu n).record.count ≠ 0)
    (hlength : r'.kind = some (.named .data) → (s.lu n).record.count ≠ 2) :
    exec (.receiveCharacter n (LineChar.data b).encode) s = .next (s.heardParcel n 1 r') := by
  rw [exec_receiveCharacter_data h hphase, hbecomes,
    storageAt_eq_self (by rw [record_heardParcel]; exact hfirst) (by rw [record_heardParcel]; exact hlength),
    storePayload_eq_self (by rw [record_heardParcel]; exact hstorage)]

/-- The first byte of a control parcel decides CONTROL (R38). -/
theorem storageAt_first_control {n : LinkId} {k : Kind} {b : Byte} {s : State}
    (hkind : (s.lu n).record.kind = some (.named k)) (hk : k ≠ .data) :
    s.storageAt n 0 b = s.setStorage n .control none := by
  unfold State.storageAt
  rw [hkind]
  cases k with
  | data => exact absurd rfl hk
  | _ => rfl

/-- The first byte of a parcel of no kind decides UNSTORED (R38). -/
theorem storageAt_first_unnamed {n : LinkId} {b : Byte} {s : State} (hkind : (s.lu n).record.kind = some .unnamed) :
    s.storageAt n 0 b = s.setStorage n .unstored none := by
  unfold State.storageAt
  rw [hkind]
  rfl

/-! ## The header bytes, one by one (R38, R49) -/

section
variable {r : RxRecord}

theorem takeHeader_first (r : RxRecord) (b : Byte) :
    r.takeHeader 0 b =
      { r with kind := some (kindCode b), epoch := some (b.extractLsb' 4 4), copy := some (b.getLsbD 3) } := rfl

theorem takeHeader_ordinal (h : r.kind = some (.named .data)) (b : Byte) :
    r.takeHeader 1 b = { r with ordinal := some (b.extractLsb' 0 6) } := by
  cases r; cases h; rfl

theorem takeHeader_length (h : r.kind = some (.named .data)) (b : Byte) :
    r.takeHeader 2 b = { r with length := some b.toNat } := by
  cases r; cases h; rfl

theorem takeHeader_cumulative (h : r.kind = some (.named .receipt)) (b : Byte) :
    r.takeHeader 1 b = { r with cumulative := some (b.extractLsb' 0 6) } := by
  cases r; cases h; rfl

theorem takeHeader_gapMap (h : r.kind = some (.named .receipt)) (b : Byte) :
    r.takeHeader 2 b = { r with gapMap := some (b.extractLsb' 0 7) } := by
  cases r; cases h; rfl

theorem takeHeader_receiptCredit (h : r.kind = some (.named .receipt)) (b : Byte) :
    r.takeHeader 3 b = { r with credit := some (takeCredit b.toNat) } := by
  cases r; cases h; rfl

theorem takeHeader_openCredit (h : r.kind = some (.named .open_)) (b : Byte) :
    r.takeHeader 1 b =
      { r with credit := some (takeCredit (b.extractLsb' 0 4).toNat), rank := some (b.extractLsb' 4 2).toNat } := by
  cases r; cases h; rfl

theorem takeHeader_grantCredit (h : r.kind = some (.named .grant)) (b : Byte) :
    r.takeHeader 1 b = { r with credit := some (takeCredit b.toNat) } := by
  cases r; cases h; rfl

/-- A byte after the header of its kind gives no field. -/
theorem takeHeader_after_header {k : Kind} (h : r.kind = some (.named k)) {i : Nat} (hi : k.headerLength ≤ i) (b : Byte) :
    r.takeHeader i b = r := by
  obtain ⟨j, rfl⟩ := Nat.exists_eq_add_of_le' hi
  cases r
  cases h
  have hne : ¬ j + k.headerLength = 0 := by cases k <;> exact Nat.succ_ne_zero _
  unfold RxRecord.takeHeader
  rw [if_neg hne]
  cases k <;> rfl

/-- A byte of a parcel of no kind, but for its first, gives no field. -/
theorem takeHeader_unnamed (h : r.kind = some .unnamed) {i : Nat} (hi : i ≠ 0) (b : Byte) : r.takeHeader i b = r := by
  cases r
  cases h
  unfold RxRecord.takeHeader
  rw [if_neg hi]

theorem takeByte_of_header {r' : RxRecord} {i : Nat} {b : Byte} (hcount : r.count = i) (h : r.takeHeader i b = r') :
    r.takeByte b = { r' with count := min 255 (r.count + 1), check := checkByte r.check b } := by
  unfold RxRecord.takeByte
  rw [hcount, h]

end

/-! ## Header bytes by value (R47, R49, R212) -/

/-- Bits `lo` and up of a byte by value. -/
theorem extract_eq_ofNat (lo width : Nat) (b : Byte) :
    b.extractLsb' lo width = BitVec.ofNat width (b.toNat / 2 ^ lo) := by
  apply BitVec.eq_of_toNat_eq
  simp [Nat.shiftRight_eq_div_pow]

theorem extract_low_eq_ofNat (width : Nat) (b : Byte) :
    b.extractLsb' 0 width = BitVec.ofNat width (b.toNat % 2 ^ width) := by
  apply BitVec.eq_of_toNat_eq
  simp

theorem kindOfValue_value (k : Kind) : kindOfValue k.value = k := by
  cases k <;> rfl

theorem kindOfValue_of_mod {b : Byte} {k : Kind} (h : b.toNat % 8 = k.value.toNat) :
    kindOfValue (b.extractLsb' 0 3) = k := by
  have hvalue : b.extractLsb' 0 3 = k.value := by
    apply BitVec.eq_of_toNat_eq
    simpa using h
  rw [hvalue, kindOfValue_value]

theorem kindCode_data {b : Byte} (h : b.toNat % 8 = 0) : kindCode b = .named .data := by
  simp [kindCode, kindOfValue_of_mod (k := .data) h]

theorem kindCode_control {b : Byte} {k : Kind} (h : b.toNat % 8 = k.value.toNat) (hflag : b.getLsbD 3 = false) :
    kindCode b = .named k := by
  unfold kindCode
  rw [kindOfValue_of_mod h, hflag]
  rfl

/-- Kind value 0 is DATA's alone (R212). -/
theorem kindOfValue_ne_data {v : BitVec 3} (h : v.toNat ≠ 0) : kindOfValue v ≠ .data := by
  revert v; decide

theorem kindCode_unnamed {b : Byte} (h : b.toNat % 8 ≠ 0) (hflag : b.getLsbD 3 = true) : kindCode b = .unnamed := by
  have hk : kindOfValue (b.extractLsb' 0 3) ≠ .data := kindOfValue_ne_data (by simpa using h)
  unfold kindCode
  rw [hflag]
  simp [hk]

/-- Settles O40: each byte by its place, through the record's `takeByte`. -/
theorem dataBytesInAParcel : Obligations.DataBytesInAParcel := by
  intro n s b hquiet hphase r taken becomes
  have plain : ∀ r' : RxRecord, r.takeByte b = r' → r'.storage ≠ some .storing →
      (r'.kind ≠ some (.named .data) → r.count ≠ 0) → (r'.kind = some (.named .data) → r.count ≠ 2) → becomes r' :=
    fun r' hbecomes hstorage hfirst hlength =>
      exec_receiveCharacter_data_plain hquiet hphase hbecomes hstorage hfirst hlength
  refine ⟨?first, ?ordinal, ?receipt, ?open_, ?grant, ?trailer, ?unstored, ?payload⟩
  case first =>
    intro check hr first
    have hcount : r.count = 0 := by rw [hr]
    have hfirst : ∀ code, kindCode b = code → r.takeByte b = { first with kind := some code } := by
      intro code hcode
      rw [takeByte_of_header hcount (takeHeader_first r b), hcode, extract_eq_ofNat 4 4]
      rfl
    refine ⟨fun hdata => ?_, fun hcontrol hflag => ?_, fun k hk hne hflag => ?_⟩
    · refine plain _ (hfirst _ (kindCode_data hdata)) ?_ (fun hne => absurd rfl hne) (by omega)
      simp [first, taken, hr]
    · change exec _ s = _
      rw [exec_receiveCharacter_data hquiet hphase]
      change Host.Outcome.next (((s.heardParcel n 1 (r.takeByte b)).storageAt n r.count b).storePayload n r.count b) = _
      rw [hfirst _ (kindCode_unnamed hcontrol hflag), hcount,
        storageAt_first_unnamed (by rw [record_heardParcel]), setStorage_heardParcel,
        storePayload_eq_self (by rw [record_heardParcel]; exact nofun)]
      simp only [first, taken, hr]
      rfl
    · change exec _ s = _
      rw [exec_receiveCharacter_data hquiet hphase]
      change Host.Outcome.next (((s.heardParcel n 1 (r.takeByte b)).storageAt n r.count b).storePayload n r.count b) = _
      rw [hfirst _ (kindCode_control hk hflag), hcount,
        storageAt_first_control (by rw [record_heardParcel]) hne, setStorage_heardParcel,
        storePayload_eq_self (by rw [record_heardParcel]; exact nofun)]
      simp only [first, taken, hr]
      rfl
  case ordinal =>
    intro hkind hcount hstorage
    refine plain _ ?_ (by simp [taken, hstorage]) (fun _ => by omega) (fun _ => by omega)
    rw [takeByte_of_header hcount (takeHeader_ordinal hkind b), extract_low_eq_ofNat 6]
    rfl
  case receipt =>
    intro hkind hstorage
    refine ⟨fun hcount => ?_, fun hcount => ?_, fun hcount => ?_⟩
    · refine plain _ ?_ (by simp [taken, hstorage]) (fun _ => by omega) (fun _ => by omega)
      rw [takeByte_of_header hcount (takeHeader_cumulative hkind b), extract_low_eq_ofNat 6]
      rfl
    · refine plain _ ?_ (by simp [taken, hstorage]) (fun _ => by omega) (fun h => by simp [taken, hkind] at h)
      rw [takeByte_of_header hcount (takeHeader_gapMap hkind b), extract_low_eq_ofNat 7]
      rfl
    · refine plain _ ?_ (by simp [taken, hstorage]) (fun _ => by omega) (fun _ => by omega)
      rw [takeByte_of_header hcount (takeHeader_receiptCredit hkind b), takeCredit]
  case open_ =>
    intro hkind hstorage hcount
    have hrank : (b.extractLsb' 4 2).toNat = b.toNat / 16 % 4 := by rw [extract_eq_ofNat]; simp
    have hcredit : (b.extractLsb' 0 4).toNat = b.toNat % 16 := by simp
    refine plain _ ?_ (by simp [taken, hstorage]) (fun _ => by omega) (fun _ => by omega)
    rw [takeByte_of_header hcount (takeHeader_openCredit hkind b), hrank, hcredit, takeCredit]
  case grant =>
    intro hkind hstorage hcount
    refine plain _ ?_ (by simp [taken, hstorage]) (fun _ => by omega) (fun _ => by omega)
    rw [takeByte_of_header hcount (takeHeader_grantCredit hkind b), takeCredit]
  case trailer =>
    intro k hkind hk hstorage hafter
    have hne : r.kind ≠ some (.named .data) := by rw [hkind]; simpa using hk
    have hheader : 1 ≤ k.headerLength := by cases k <;> decide
    exact plain _ (takeByte_of_header rfl (takeHeader_after_header hkind hafter b)) (by simp [taken, hstorage])
      (fun _ => by omega) (fun h => absurd h hne)
  case unstored =>
    rintro hstorage (⟨hkind, hafter⟩ | ⟨hkind, hafter⟩)
    all_goals have hnot : taken.storage ≠ some .storing := by rcases hstorage with h | h <;> simp [taken, h]
    · exact plain _ (takeByte_of_header rfl (takeHeader_after_header hkind hafter b)) hnot (fun _ => by omega)
        (fun _ => by omega)
    · exact plain _ (takeByte_of_header rfl (takeHeader_unnamed hkind (by omega) b)) hnot (fun _ => by omega)
        (fun h => by simp [taken, hkind] at h)
  case payload =>
    intro d len hkind hstorage hdescriptor hlength hafter hwf heardByte
    have htaken : r.takeByte b = taken := takeByte_of_header rfl (takeHeader_after_header hkind hafter b)
    have hheard : exec (.receiveCharacter n (LineChar.data b).encode) s =
        .next (heardByte.storePayload n r.count b) := by
      rw [exec_receiveCharacter_data hquiet hphase]
      change Host.Outcome.next (((s.heardParcel n 1 (r.takeByte b)).storageAt n r.count b).storePayload n r.count b) = _
      rw [htaken, storageAt_eq_self (by rw [record_heardParcel]; exact fun _ => by omega)
        (by rw [record_heardParcel]; exact fun _ => by omega)]
      rfl
    have hstore : heardByte.storePayload n r.count b =
        if r.count - 3 < len then heardByte.writePayload d (r.count - 3) b else heardByte := by
      have hrecord : (heardByte.lu n).record = taken := record_heardParcel n 1 taken s
      unfold State.storePayload
      simp only [hrecord, taken, hstorage, hdescriptor, hlength, hafter, true_and]
    rw [hstore] at hheard
    refine ⟨fun hinside a haddress => ?_, fun houtside => ?_⟩
    · refine ⟨s.mem.write a b, ?_, fun x => ?_⟩
      · have hdesc : heardByte.desc d = s.desc d := rfl
        rw [hheard, if_pos (by omega), State.writePayload, hdesc, haddress]
        rfl
      · by_cases hx : x = a
        · rw [if_pos hx, hx, Memory.read_write_same _ _ _ hwf.1]
        · rw [if_neg hx, Memory.read_write_ne _ _ _ _ hx]
    · change exec _ s = _
      rw [hheard, if_neg (by omega)]

end Sys2Proof.Machine
end

section
/-! The family of chapter 2: the storage decision at the *length* byte, and the EOP (R39, R42, R43, R52). -/

namespace Sys2Proof.Machine
open Sys2Proof.Safety

/-! ## A claim beside a link's change (R9, R10) -/

/-- What a claim tests of the links is their guarantees. -/
theorem claimGranted_modLink {n m : LinkId} {len : Nat} {f : Link → Link} {s : State}
    (h : (f (s.link n)).guarantee = (s.link n).guarantee) :
    (s.modLink n f).claimGranted m len = s.claimGranted m len := by
  have hguarantee : ∀ k, ((s.modLink n f).link k).guarantee = (s.link k).guarantee := by
    intro k
    rw [State.link_modLink]
    split
    · rename_i hk; rw [h, hk]
    · rfl
  have hused : ∀ k, (s.modLink n f).used k = s.used k := fun k => rfl
  simp only [State.claimGranted, othersReserve_eq_sum, hguarantee, hused, State.freeDescs_modLink,
    State.freeBlocks_modLink]

theorem afterClaim_modLink (n : LinkId) (f : Link → Link) (s : State) :
    (s.modLink n f).afterClaim = s.afterClaim.modLink n f := by
  have htest : ((s.modLink n f).freeBlocks.length < (s.modLink n f).watermark ∧ (s.modLink n f).armed = true) ↔
      (s.freeBlocks.length < s.watermark ∧ s.armed = true) := Iff.rfl
  unfold State.afterClaim
  by_cases hlow : s.freeBlocks.length < s.watermark ∧ s.armed = true
  · rw [if_pos hlow, if_pos (htest.mpr hlow)]
    rfl
  · rw [if_neg hlow, if_neg fun hl => hlow (htest.mp hl)]

/-- A claim and a change of a link that keeps its guarantee do not meet. -/
theorem claim_modLink {n m : LinkId} {len : Nat} {fill : Descriptor} {f : Link → Link} {s : State}
    (h : (f (s.link n)).guarantee = (s.link n).guarantee) :
    (s.modLink n f).claim m len fill = (s.claim m len fill).map fun (d, t) => (d, t.modLink n f) := by
  unfold State.claim
  rw [claimGranted_modLink h, State.freeDescs_modLink]
  cases s.freeDescs with
  | nil => rfl
  | cons d rest =>
    dsimp only
    split
    · have hafter := afterClaim_modLink n f
        ({ s with freeDescs := rest, freeBlocks := s.freeBlocks.drop (blocksFor len) }.setDesc d
          { fill with blocks := s.freeBlocks.take (blocksFor len) })
      exact congrArg (fun t : State => some (d, t)) hafter
    · rfl

/-! ## The storage decision (R38, R39) -/

theorem lengthInRange_iff (len : Nat) : lengthInRange len = true ↔ 1 ≤ len ∧ len ≤ 240 := by
  rw [lengthInRange, Bool.and_eq_true, decide_eq_true_iff, decide_eq_true_iff]
  rfl

/-- The *length* byte of DATA: the record takes it, then *storage* is decided. -/
theorem exec_receiveCharacter_length {n : LinkId} {s : State} {b : Byte} (h : Quiet s n)
    (hphase : (s.lu n).record.phase = .inParcel) (hkind : (s.lu n).record.kind = some (.named .data))
    (hcount : (s.lu n).record.count = 2) :
    exec (.receiveCharacter n (LineChar.data b).encode) s = .next ((s.heardParcel n 1 { (s.lu n).record with
      count := 3, check := checkByte (s.lu n).record.check b, length := some b.toNat }).decideStorage n b.toNat) := by
  have htaken : (s.lu n).record.takeByte b = { (s.lu n).record with
      count := 3, check := checkByte (s.lu n).record.check b, length := some b.toNat } := by
    rw [takeByte_of_header hcount (takeHeader_length hkind b), hcount]
    rfl
  have hdecide : ∀ t : State, (t.lu n).record.kind = some (.named .data) →
      t.storageAt n 2 b = t.decideStorage n b.toNat := by
    intro t ht
    unfold State.storageAt
    rw [ht]
    rfl
  have hpayload : ∀ t : State, t.storePayload n 2 b = t := by
    intro t
    unfold State.storePayload
    dsimp only
    split
    · exact if_neg (by omega)
    · rfl
  rw [exec_receiveCharacter_data h hphase, hcount, hpayload, htaken, hdecide _ (by rw [record_heardParcel]; exact hkind)]

/-- Settles O41: the three ends of the decision, the claim seen past what the byte has changed. -/
theorem storageDecision : Obligations.StorageDecision := by
  intro n s b hquiet hphase r st hkind hcount hdescriptor taken heardByte decided
  have hexec : exec (.receiveCharacter n (LineChar.data b).encode) s = .next (heardByte.decideStorage n b.toNat) :=
    exec_receiveCharacter_length hquiet hphase hkind hcount
  have hrecord : (heardByte.lu n).record = taken := record_heardParcel n 1 taken s
  have hlive : (heardByte.le n).session.live = true ↔ st = .open_ ∨ st = .draining ∨ st = .closing := by
    rw [show heardByte.le n = s.le n from le_heardParcel n 1 taken s, live_iff]
  have hset : ∀ (storage : Storage) (d : Option DescId) (t : State), (t.lu n).record = taken →
      t.setStorage n storage d = decided storage d t := by
    intro storage d t ht
    change (t.link n).lu.record = taken at ht
    refine modLink_congr (f := fun l => { l with lu := { l.lu with record :=
      { l.lu.record with storage := some storage, descriptor := d } } }) ?_
    rw [ht]
  rw [hexec, State.decideStorage]
  refine ⟨fun hout => ?_, fun hlow hhigh hsession => ?_⟩
  · have hrefused : ¬ (lengthInRange b.toNat && (heardByte.le n).session.live) = true := by
      rw [Bool.and_eq_true, lengthInRange_iff, hlive]
      rcases hout with h | h | h | h
      · omega
      · omega
      · simp [h]
      · simp [h]
    rw [if_neg hrefused, hset _ _ _ hrecord]
  · have hasked : (lengthInRange b.toNat && (heardByte.le n).session.live) = true := by
      rw [Bool.and_eq_true, lengthInRange_iff, hlive]
      exact ⟨⟨hlow, hhigh⟩, hsession⟩
    intro fill
    have hfill : (heardByte.lu n).record.fill n b.toNat = fill := by rw [hrecord]; rfl
    have hclaim : heardByte.claim n b.toNat fill =
        (s.claim n b.toNat fill).map fun (d, t) =>
          (d, t.modLink n fun l => withRecord taken (gapRestarted (heard 1 l))) :=
      claim_modLink (f := fun l => withRecord taken (gapRestarted (heard 1 l))) rfl
    rw [if_pos hasked, hfill]
    refine ⟨fun hnone => ?_, fun d t hsome => ?_⟩
    · rw [hclaim, hnone]
      exact congrArg _ (hset _ _ _ hrecord)
    · refine ⟨t.modLink n fun l => withRecord taken (gapRestarted (heard 1 l)), ?_, ?_⟩
      · rw [hclaim, hsome]
        rfl
      · rw [hclaim, hsome]
        exact congrArg _ (hset _ _ _ (record_heardParcel n 1 taken t))

/-! ## The format checks (R48, R52) -/

/-- The count of data bytes is the one that the header asks for. -/
theorem requiredCount_eq_some_iff (r : RxRecord) (c : Nat) :
    r.requiredCount = some c ↔
      (r.kind = some (.named .data) ∧ ∃ len, r.length = some len ∧ 1 ≤ len ∧ len ≤ 240 ∧ c = 3 + len + 2) ∨
        (∃ k, r.kind = some (.named k) ∧ k ≠ .data ∧ c = k.headerLength + 2) := by
  unfold RxRecord.requiredCount
  split
  · rename_i hkind
    rw [hkind]
    cases hlength : r.length with
    | none => simp
    | some len =>
      by_cases hrange : lengthInRange len = true
      · simp only [if_pos hrange]
        have := (lengthInRange_iff len).mp hrange
        simp [this, eq_comm]
      · have hout := mt (lengthInRange_iff len).mpr hrange
        dsimp only
        rw [if_neg hrange]
        refine ⟨nofun, ?_⟩
        rintro (⟨-, m, hm, hlow, hhigh, -⟩ | ⟨k, hk, hne, -⟩)
        · obtain rfl := Option.some.inj hm
          exact absurd ⟨hlow, hhigh⟩ hout
        · exact absurd (KindCode.named.inj (Option.some.inj hk)).symm hne
  · rename_i k hk hkind
    have hne : k ≠ .data := hk
    rw [hkind]
    simp [hne, eq_comm]
  · rename_i hdata hnamed
    refine ⟨nofun, ?_⟩
    rintro (⟨hkind, -⟩ | ⟨k, hkind, -⟩)
    · exact absurd hkind hdata
    · exact absurd hkind (hnamed k)

theorem formatFault_eq_none_iff (r : RxRecord) :
    r.formatFault = none ↔ r.kind ≠ some .unnamed ∧ r.requiredCount = some r.count ∧ r.check = 0 := by
  unfold RxRecord.formatFault
  split_ifs <;> simp_all

/-- The format checks pass exactly for a whole parcel. -/
theorem formatFault_eq_none_iff_wholeParcel (r : RxRecord) : r.formatFault = none ↔ WholeParcel r := by
  rw [formatFault_eq_none_iff, requiredCount_eq_some_iff, WholeParcel]
  constructor
  · rintro ⟨-, hcount, hcheck⟩
    refine ⟨hcheck, ?_⟩
    rcases hcount with hdata | ⟨k, hkind, hne, hcount⟩
    · exact .inl hdata
    · cases k with
      | data => exact absurd rfl hne
      | receipt => exact .inr (.inl ⟨hkind, hcount⟩)
      | open_ => exact .inr (.inr (.inl ⟨.inl hkind, hcount⟩))
      | grant => exact .inr (.inr (.inl ⟨.inr hkind, hcount⟩))
      | query => exact .inr (.inr (.inr ⟨.inl hkind, hcount⟩))
      | close => exact .inr (.inr (.inr ⟨.inr (.inl hkind), hcount⟩))
      | closeAck => exact .inr (.inr (.inr ⟨.inr (.inr (.inl hkind)), hcount⟩))
      | drop => exact .inr (.inr (.inr ⟨.inr (.inr (.inr hkind)), hcount⟩))
  · rintro ⟨hcheck, hcount⟩
    have hnamed : ∃ k, r.kind = some (.named k) := by
      rcases hcount with ⟨hkind, -⟩ | ⟨hkind, -⟩ | ⟨hkind | hkind, -⟩ | ⟨hkind | hkind | hkind | hkind, -⟩ <;>
        exact ⟨_, hkind⟩
    refine ⟨?_, ?_, hcheck⟩
    · obtain ⟨k, hkind⟩ := hnamed
      rw [hkind]
      exact nofun
    · rcases hcount with hdata | ⟨hkind, hcount⟩ | ⟨hkind | hkind, hcount⟩ | ⟨hkind | hkind | hkind | hkind, hcount⟩
      · exact .inl hdata
      all_goals exact .inr ⟨_, hkind, by decide, hcount⟩

/-- A parcel that fails a format check is dropped under DROP_FORMAT (R192). -/
theorem formatFault_counter {r : RxRecord} {cause : DropCause} (h : r.formatFault = some cause) :
    cause.counter = .dropFormat := by
  unfold RxRecord.formatFault at h
  split_ifs at h <;> cases h <;> rfl

/-! ## EOP (R42, R43) -/

/-- EOP ends a whole parcel: the record returns to HUNT and the parcel is handed over (R42, R43). -/
theorem exec_eop_of_wholeParcel {n : LinkId} {s : State} (h : Quiet s n) (hphase : (s.lu n).record.phase = .inParcel)
    (hwhole : WholeParcel (s.lu n).record) :
    exec (.receiveCharacter n (LineChar.control .eop).encode) s =
      .next ((s.modLink n fun l => recordIs {} (heard 1 l)).handOff n (s.lu n).record) := by
  rw [exec_receiveCharacter_in_parcel h hphase, State.parcelCharacter, State.finishParcel, record_gapRestarted_heard]
  simp only [(formatFault_eq_none_iff_wholeParcel _).mpr hwhole, toHunt_eq, modLink_modLink]
  rfl

theorem handOff_control {n : LinkId} {r : RxRecord} {k : Kind} {s : State} (hstorage : r.storage = some .control)
    (hkind : r.kind = some (.named k)) : s.handOff n r = s.takeControl n k r := by
  unfold State.handOff
  rw [hstorage, hkind]

theorem takeCredit_ofNat {c : Nat} (h : c ≤ 8) : takeCredit (BitVec.ofNat 8 c).toNat = c := by
  rw [BitVec.toNat_ofNat, Nat.mod_eq_of_lt (by omega), takeCredit]
  omega

/-- The hand-off of a control record is the row that the record spells (R43, R53). -/
theorem takeControl_eq_controlRow {n : LinkId} {r : RxRecord} {k : Kind} {i : Instr} (s : State)
    (hkind : r.kind = some (.named k)) (hcredit : r.credit.getD 0 ≤ 8) (hrank : r.rank.getD 0 ≤ 3)
    (hrow : controlRow n r = some i) : exec i s = .next (s.takeControl n k r) := by
  have hrankBits : (BitVec.ofNat 2 (r.rank.getD 0)).toNat = r.rank.getD 0 := by
    rw [BitVec.toNat_ofNat]
    omega
  have hcreditByte := takeCredit_ofNat hcredit
  unfold controlRow at hrow
  rw [hkind] at hrow
  cases k with
  | data => exact nomatch hrow
  | receipt =>
    obtain rfl := Option.some.inj hrow
    simp only [exec, execReceiveReceipt, hcreditByte, State.takeControl]
  | open_ =>
    obtain rfl := Option.some.inj hrow
    simp only [exec, execReceiveOpen, hcreditByte, hrankBits, State.takeControl]
  | grant =>
    obtain rfl := Option.some.inj hrow
    simp only [exec, execReceiveGrant, hcreditByte, State.takeControl]
  | query => obtain rfl := Option.some.inj hrow; rfl
  | close => obtain rfl := Option.some.inj hrow; rfl
  | closeAck => obtain rfl := Option.some.inj hrow; rfl
  | drop => obtain rfl := Option.some.inj hrow; rfl

/-- Settles O42: the format checks as `WholeParcel`, then the hand-off by *storage*. -/
theorem eopEndsAParcel : Obligations.EopEndsAParcel := by
  intro n s hquiet hphase r e taken hunt eop
  have hrecord : (taken.lu n).record = r := record_gapRestarted_heard n 1 s
  have hsession : (hunt.le n).session = e.session := by
    unfold State.le
    rw [State.link_modLink_same]
    rfl
  constructor
  · intro hpart hassembling
    obtain ⟨cause, hcause⟩ : ∃ cause, r.formatFault = some cause :=
      Option.ne_none_iff_exists'.mp fun hnone => hpart ((formatFault_eq_none_iff_wholeParcel r).mp hnone)
    refine ⟨((taken.releaseRecord n).modLU n LineUnit.toHunt).reportDrop n cause, ?_, ?_⟩
    · change exec _ s = _
      rw [exec_receiveCharacter_in_parcel hquiet hphase, State.parcelCharacter, State.finishParcel]
      change Host.Outcome.next (match (taken.lu n).record.formatFault with
        | some cause => ((taken.releaseRecord n).modLU n LineUnit.toHunt).reportDrop n cause
        | none => (taken.modLU n LineUnit.toHunt).handOff n (taken.lu n).record) = _
      rw [hrecord, hcause]
    · rw [← formatFault_counter hcause]
      refine dropped_of_releaseRecord cause fun d hd => ?_
      rw [hrecord] at hd
      rw [show taken.desc d = s.desc d from rfl, hassembling d hd]
      decide
  · intro hwhole
    have heop : eop = .next (hunt.handOff n r) := exec_eop_of_wholeParcel hquiet hphase hwhole
    refine ⟨fun d hstorage hdescriptor hlive => ?_, fun i hstorage hcredit hrank hrow => ?_, fun hstorage => ?_,
      fun hstorage => ?_⟩
    · have hlive' : (taken.le n).session.live = true := by
        rw [live_iff]
        have : (taken.le n).session = e.session := by
          unfold State.le
          rw [State.link_modLink_same]
          rfl
        rw [this]
        exact hlive
      have hreturned : taken.modLU n (fun u => { u with record := {}, gapTimer := none }) = hunt :=
        (modLink_modLink n _ _ s).trans (modLink_congr rfl)
      rw [heop, State.handOff]
      simp only [exec, execReceiveData, hrecord, hstorage, hdescriptor, hlive', and_self, if_true, hreturned]
    · obtain ⟨k, hkind⟩ : ∃ k, r.kind = some (.named k) := by
        unfold controlRow at hrow
        cases hkind : r.kind with
        | none => rw [hkind] at hrow; exact nomatch hrow
        | some code =>
          cases code with
          | named k => exact ⟨k, rfl⟩
          | unnamed => rw [hkind] at hrow; exact nomatch hrow
      rw [heop, handOff_control hstorage hkind, takeControl_eq_controlRow hunt hkind hcredit hrank hrow]
    · have hcounted : hunt.handOff n r = hunt.takeNomem n := by unfold State.handOff; rw [hstorage]
      rw [heop, hcounted, State.takeNomem]
      simp only [live_iff, hsession]
      rfl
    · have hcounted : hunt.handOff n r = hunt.takeNosession n (r.epoch.getD 0) := by
        unfold State.handOff; rw [hstorage]
      have hdrop : ∀ k : LinkEngine, k.makeDrop (r.epoch.getD 0) = { k with
          pending := { k.pending with drop := true }
          dropEpoch := if k.pending.drop = true then k.dropEpoch else r.epoch.getD 0 } := by
        intro k
        unfold LinkEngine.makeDrop
        split
        · rename_i hset
          rw [← hset]
        · rfl
      rw [heop, hcounted, State.takeNosession]
      simp only [hsession, State.makeDrop, State.reportDrop, DropCause.counter]
      rw [funext hdrop]

end Sys2Proof.Machine
end

section
/-! The family of chapter 2: a control parcel as it comes over the line (R38, R42, R43, R49-R51). -/

namespace Sys2Proof.Machine
open Sys2Proof.Safety

/-! ## The check bytes leave zero (R51) -/

/-- Bits that agree with the register's own only shift it. -/
theorem foldl_checkBit_of_agree (r : Word) (b : Byte) (k : Nat) (h : ∀ i < k, b.getLsbD i = r.getLsbD i) :
    (List.range k).foldl (fun r i => checkBit r (b.getLsbD i)) r = r >>> k := by
  induction k with
  | zero => simp
  | succ k ih =>
    have hagree : (r >>> k).getLsbD 0 = b.getLsbD k := by
      rw [BitVec.getLsbD_ushiftRight, Nat.add_zero, h k (Nat.lt_succ_self k)]
    rw [List.range_succ, List.foldl_append, ih fun i hi => h i (Nat.lt_succ_of_lt hi), List.foldl_cons, List.foldl_nil,
      checkBit, hagree, bne_self_eq_false, if_neg Bool.false_ne_true, BitVec.shiftRight_add]

theorem checkByte_low (r : Word) : checkByte r (r.extractLsb' 0 8) = r >>> 8 :=
  foldl_checkBit_of_agree r _ 8 fun i hi => by simp [hi]

theorem foldl_checkByte_checkBytes (r : Word) : (checkBytes r).foldl checkByte r = 0 := by
  have hhigh : r.extractLsb' 8 8 = (r >>> 8).extractLsb' 0 8 := by
    apply BitVec.eq_of_getLsbD_eq
    intro i hi
    simp [hi]
  have hout : r >>> 8 >>> 8 = 0#16 := by
    rw [← BitVec.shiftRight_add]
    exact BitVec.ushiftRight_eq_zero (le_refl 16)
  simp only [checkBytes, List.foldl_cons, List.foldl_nil, checkByte_low, hhigh, hout]
  rfl

/-! ## Header bytes read back (R47-R49, R212) -/

theorem kindCode_firstByte (k : Kind) (e : Epoch) : kindCode (firstByte k false e) = .named k := by
  revert e; cases k <;> decide

theorem epoch_firstByte (k : Kind) (flag : Bool) (e : Epoch) : (firstByte k flag e).extractLsb' 4 4 = e := by
  revert e; cases k <;> cases flag <;> decide

theorem flag_firstByte (k : Kind) (flag : Bool) (e : Epoch) : (firstByte k flag e).getLsbD 3 = flag := by
  revert e; cases k <;> cases flag <;> decide

theorem extract_zeroExtend {w : Nat} (h : w ≤ 8) (v : BitVec w) : (v.zeroExtend 8).extractLsb' 0 w = v := by
  apply BitVec.eq_of_getLsbD_eq
  intro i hi
  simp [hi]
  omega

/-! ## Bytes of a parcel one after another -/

theorem runAll_cons {c : Instr} {s t : State} (h : exec c s = .next t) (rest : List Instr) :
    runAll (c :: rest) s = runAll rest t := by
  rw [runAll, h]

/-- The arrival of a data byte. -/
def byteArrives (n : LinkId) (b : Byte) : Instr := .receiveCharacter n (LineChar.data b).encode

/-- Good characters add up (R28). -/
theorem heard_heard (j k : Nat) (l : Link) : heard k (heard j l) = heard (j + k) l := by
  by_cases hfull : 16 ≤ l.lu.run + j
  · have hfull' : 16 ≤ l.lu.run + (j + k) := by omega
    simp [heard, hfull, hfull']
  · have hrun : min 16 (l.lu.run + j) = l.lu.run + j := by omega
    simp [heard, hfull, hrun, Nat.add_assoc]

theorem heardParcel_heardParcel (n : LinkId) (j k : Nat) (r r' : RxRecord) (s : State) :
    (s.heardParcel n j r).heardParcel n k r' = s.heardParcel n (j + k) r' := by
  unfold State.heardParcel
  rw [modLink_modLink]
  refine modLink_congr ?_
  rw [← heard_heard]
  rfl

theorem quiet_heardParcel {n : LinkId} {s : State} (h : Quiet s n) (k : Nat) (r : RxRecord) :
    Quiet (s.heardParcel n k r) n := by
  obtain ⟨hheld, hbreak, hlost⟩ := h
  unfold Quiet State.lu
  rw [link_heardParcel]
  exact ⟨hheld, hbreak, hlost⟩

/-- A record in the middle of a control parcel of kind `k`. -/
def ControlRecord (k : Kind) (r : RxRecord) : Prop :=
  k ≠ .data ∧ r.phase = .inParcel ∧ r.kind = some (.named k) ∧ r.storage = some .control ∧ r.count ≠ 0

theorem phase_takeHeader (r : RxRecord) (i : Nat) (b : Byte) : (r.takeHeader i b).phase = r.phase := by
  unfold RxRecord.takeHeader
  split
  · rfl
  · split <;> rfl

theorem controlRecord_takeByte {k : Kind} {r : RxRecord} (h : ControlRecord k r) (b : Byte) :
    ControlRecord k (r.takeByte b) := by
  obtain ⟨hk, hphase, hkind, hstorage, hcount⟩ := h
  refine ⟨hk, ?_, ?_, ?_, ?_⟩
  · exact (phase_takeHeader r _ b).trans hphase
  · exact (kind_takeHeader r _ b hcount).trans hkind
  · exact (storage_takeHeader r _ b).trans hstorage
  · unfold RxRecord.takeByte
    dsimp only
    omega

/-- A byte in the middle of a control parcel goes into the record. -/
theorem byteArrives_of_controlRecord {n : LinkId} {j : Nat} {k : Kind} {r : RxRecord} {s : State} (hquiet : Quiet s n)
    (h : ControlRecord k r) (b : Byte) :
    exec (byteArrives n b) (s.heardParcel n j r) = .next (s.heardParcel n (j + 1) (r.takeByte b)) := by
  have hrecord : ((s.heardParcel n j r).lu n).record = r := record_heardParcel n j r s
  have hnext := controlRecord_takeByte h b
  obtain ⟨hk, hphase, hkind, hstorage, hcount⟩ := h
  obtain ⟨-, -, hkind', hstorage', -⟩ := hnext
  rw [← heardParcel_heardParcel n j 1 r]
  refine exec_receiveCharacter_data_plain (quiet_heardParcel hquiet j r) ?_ ?_ ?_ ?_ ?_
  · rw [hrecord, hphase]
  · rw [hrecord]
  · rw [hstorage']; exact nofun
  · intro _; rw [hrecord]; exact hcount
  · intro hdata
    rw [hkind'] at hdata
    exact absurd (KindCode.named.inj (Option.some.inj hdata)) hk

theorem runAll_bytes_of_controlRecord {n : LinkId} {k : Kind} {s : State} (hquiet : Quiet s n) (rest : List Instr)
    (bytes : List Byte) : ∀ {j : Nat} {r : RxRecord}, ControlRecord k r →
      runAll (bytes.map (byteArrives n) ++ rest) (s.heardParcel n j r) =
        runAll rest (s.heardParcel n (j + bytes.length) (bytes.foldl RxRecord.takeByte r)) := by
  induction bytes with
  | nil => intro j r _; rfl
  | cons b bytes ih =>
    intro j r h
    rw [List.map_cons, List.cons_append, runAll_cons (byteArrives_of_controlRecord hquiet h b),
      ih (controlRecord_takeByte h b), List.length_cons, List.foldl_cons, Nat.add_assoc, Nat.add_comm 1]

theorem controlRecord_foldl_takeByte {k : Kind} (bytes : List Byte) : ∀ {r : RxRecord}, ControlRecord k r →
    ControlRecord k (bytes.foldl RxRecord.takeByte r) := by
  induction bytes with
  | nil => exact fun h => h
  | cons b bytes ih => exact fun h => ih (controlRecord_takeByte h b)

theorem check_foldl_takeByte (bytes : List Byte) : ∀ r : RxRecord,
    (bytes.foldl RxRecord.takeByte r).check = bytes.foldl checkByte r.check := by
  induction bytes with
  | nil => exact fun r => rfl
  | cons b bytes ih => exact fun r => ih (r.takeByte b)

/-! ## A control parcel from its SOP to its EOP (R37, R38, R42, R43) -/

/-- The record after the first byte of a control parcel. -/
def firstRecord (k : Kind) (e : Epoch) : RxRecord :=
  { phase := .inParcel, count := 1, kind := some (.named k), epoch := some e, copy := some false,
    check := checkOf [firstByte k false e], storage := some .control }

theorem exec_sop {n : LinkId} {s : State} (hquiet : Quiet s n) (hphase : (s.lu n).record.phase = .hunt) :
    exec (.receiveCharacter n (LineChar.control .sop).encode) s =
      .next (s.heardParcel n 1 { phase := .inParcel, check := 0xFFFF }) := by
  rw [exec_receiveCharacter_in_hunt hquiet hphase, State.huntCharacter, openParcel_eq, modLink_modLink]
  rfl

theorem byteArrives_first {n : LinkId} {k : Kind} {s : State} (hquiet : Quiet s n) (hk : k ≠ .data) (e : Epoch) :
    exec (byteArrives n (firstByte k false e)) (s.heardParcel n 1 { phase := .inParcel, check := 0xFFFF }) =
      .next (s.heardParcel n 2 (firstRecord k e)) := by
  have htaken : ({ phase := .inParcel, check := 0xFFFF } : RxRecord).takeByte (firstByte k false e) =
      { firstRecord k e with storage := none } := by
    rw [takeByte_of_header rfl (takeHeader_first _ _), kindCode_firstByte, epoch_firstByte, flag_firstByte]
    rfl
  rw [byteArrives, exec_receiveCharacter_data (quiet_heardParcel hquiet _ _) (by rw [record_heardParcel]), record_heardParcel,
    htaken, heardParcel_heardParcel, storageAt_first_control (k := k) (by rw [record_heardParcel]; rfl) hk,
    setStorage_heardParcel, storePayload_eq_self (by rw [record_heardParcel]; exact nofun)]
  rfl

theorem exec_eop_heardParcel {n : LinkId} {j : Nat} {k : Kind} {r : RxRecord} {s : State} (hquiet : Quiet s n)
    (h : ControlRecord k r) (hcount : r.count = k.headerLength + 2) (hcheck : r.check = 0) :
    exec (.receiveCharacter n (LineChar.control .eop).encode) (s.heardParcel n j r) =
      .next ((s.modLink n fun l => recordIs {} (heard (j + 1) l)).takeControl n k r) := by
  obtain ⟨hk, hphase, hkind, hstorage, -⟩ := h
  have hrecord : ((s.heardParcel n j r).lu n).record = r := record_heardParcel n j r s
  have hwhole : WholeParcel r := (formatFault_eq_none_iff_wholeParcel r).mp
    ((formatFault_eq_none_iff r).mpr ⟨by rw [hkind]; exact nofun,
      (requiredCount_eq_some_iff r _).mpr (.inr ⟨k, hkind, hk, hcount⟩), hcheck⟩)
  rw [exec_eop_of_wholeParcel (quiet_heardParcel hquiet j r) (by rw [hrecord, hphase]) (by rw [hrecord]; exact hwhole),
    hrecord, handOff_control hstorage hkind, State.heardParcel, modLink_modLink]
  refine congrArg (fun t : State => Host.Outcome.next (t.takeControl n k r)) (modLink_congr ?_)
  rw [← heard_heard]
  rfl

theorem count_foldl_takeByte (bytes : List Byte) : ∀ r : RxRecord, r.count + bytes.length ≤ 255 →
    (bytes.foldl RxRecord.takeByte r).count = r.count + bytes.length := by
  induction bytes with
  | nil => exact fun r _ => rfl
  | cons b bytes ih =>
    intro r h
    rw [List.length_cons] at h
    have hcount : (r.takeByte b).count = r.count + 1 := by
      unfold RxRecord.takeByte
      dsimp only
      omega
    rw [List.foldl_cons, ih _ (by omega), List.length_cons, hcount]
    omega

/-- Bytes after the header give no field. -/
theorem foldl_takeByte_after_header {k : Kind} (bytes : List Byte) : ∀ {r : RxRecord}, r.kind = some (.named k) →
    k.headerLength ≤ r.count → ∃ count check, bytes.foldl RxRecord.takeByte r = { r with count := count, check := check } := by
  induction bytes with
  | nil => exact fun _ _ => ⟨_, _, rfl⟩
  | cons b bytes ih =>
    intro r hkind hcount
    have hbound : k.headerLength ≤ 255 := by cases k <;> decide
    have htaken : r.takeByte b = { r with count := min 255 (r.count + 1), check := checkByte r.check b } :=
      takeByte_of_header rfl (takeHeader_after_header hkind hcount b)
    obtain ⟨count, check, h⟩ := ih (r := r.takeByte b) (by rw [htaken]; exact hkind) (by rw [htaken]; dsimp only; omega)
    exact ⟨count, check, by rw [List.foldl_cons, h, htaken]⟩

theorem takeControl_count_check (n : LinkId) (k : Kind) (r : RxRecord) (count : Nat) (check : Word) (s : State) :
    s.takeControl n k { r with count := count, check := check } = s.takeControl n k r := by
  cases k <;> rfl

/-- A control parcel of kind `k` on the line, its header `firstByte` and `tail`, is handed over as that kind, with the fields
that the header's bytes gave the record. -/
theorem runAll_controlParcel {n : LinkId} {k : Kind} {s : State} (hquiet : Quiet s n)
    (hphase : (s.lu n).record.phase = .hunt) (hk : k ≠ .data) (e : Epoch) (tail : List Byte)
    (hlength : tail.length + 1 = k.headerLength) :
    runAll ((LineChar.control .sop :: parcelChars (firstByte k false e :: tail)).map fun c => .receiveCharacter n c.encode) s =
      .next ((s.modLink n fun l => recordIs {} (heard (tail.length + 5) l)).takeControl n k
        (tail.foldl RxRecord.takeByte (firstRecord k e))) := by
  have hfirst : ControlRecord k (firstRecord k e) := ⟨hk, rfl, rfl, rfl, Nat.one_ne_zero⟩
  have hbound : k.headerLength ≤ 4 := by cases k <;> decide
  have hchecks : (checkBytes (checkOf (firstByte k false e :: tail))).length = 2 := rfl
  have hchars : (LineChar.control .sop :: parcelChars (firstByte k false e :: tail)).map
      (fun c => Instr.receiveCharacter n c.encode) =
      .receiveCharacter n (LineChar.control .sop).encode :: byteArrives n (firstByte k false e) ::
        ((tail ++ checkBytes (checkOf (firstByte k false e :: tail))).map (byteArrives n) ++
          [.receiveCharacter n (LineChar.control .eop).encode]) := by
    have harrives : byteArrives n = fun b => .receiveCharacter n (LineChar.data b).encode := rfl
    simp [parcelChars, harrives, Function.comp_def]
  have hheader : (tail.foldl RxRecord.takeByte (firstRecord k e)).count = k.headerLength := by
    rw [count_foldl_takeByte _ _ (by change 1 + tail.length ≤ 255; omega)]
    change 1 + tail.length = k.headerLength
    omega
  have hcount : ((tail ++ checkBytes (checkOf (firstByte k false e :: tail))).foldl RxRecord.takeByte
      (firstRecord k e)).count = k.headerLength + 2 := by
    rw [List.foldl_append, count_foldl_takeByte _ _ (by rw [hheader, hchecks]; omega), hheader, hchecks]
  have hcheck : ((tail ++ checkBytes (checkOf (firstByte k false e :: tail))).foldl RxRecord.takeByte
      (firstRecord k e)).check = 0 := by
    rw [check_foldl_takeByte, List.foldl_append]
    exact foldl_checkByte_checkBytes (checkOf (firstByte k false e :: tail))
  obtain ⟨-, -, hkind, -, -⟩ := controlRecord_foldl_takeByte tail hfirst
  obtain ⟨count, check, hafter⟩ := foldl_takeByte_after_header (checkBytes (checkOf (firstByte k false e :: tail))) hkind
    (le_of_eq hheader.symm)
  rw [hchars, runAll_cons (exec_sop hquiet hphase), runAll_cons (byteArrives_first hquiet hk e),
    runAll_bytes_of_controlRecord hquiet _ _ hfirst,
    runAll_cons (exec_eop_heardParcel hquiet (controlRecord_foldl_takeByte _ hfirst) hcount hcheck), runAll,
    List.foldl_append, hafter, takeControl_count_check, List.length_append, hchecks,
    show 2 + (tail.length + 2) + 1 = tail.length + 5 from by omega]

/-! ## The fields of each kind (R48, R49, R212) -/

theorem takeCredit_byte (c : Byte) : takeCredit (BitVec.ofNat 8 c.toNat).toNat = takeCredit c.toNat := by
  rw [BitVec.ofNat_toNat, BitVec.setWidth_eq]

theorem openByte_credit {c : Nat} (hc : c < 16) (r : Nat) :
    ((BitVec.ofNat 8 (c % 16 + 16 * (r % 4))).extractLsb' 0 4).toNat = c := by
  simp
  omega

theorem openByte_rank {r : Nat} (hr : r < 4) (c : Nat) :
    ((BitVec.ofNat 8 (c % 16 + 16 * (r % 4))).extractLsb' 4 2).toNat = r := by
  rw [extract_eq_ofNat]
  simp
  omega

/-- Settles O43: the line brings the header's fields to the hand-off, which is the row of its kind. -/
theorem controlParcelOnTheLine : Obligations.ControlParcelOnTheLine := by
  intro i n bytes s hbytes hquiet hphase
  have arrives : ∀ {k : Kind} {e : Epoch} {tail : List Byte}, k ≠ .data → tail.length + 1 = k.headerLength →
      (∀ t : State, exec i t = .next (t.takeControl n k (tail.foldl RxRecord.takeByte (firstRecord k e)))) →
      runAll ((LineChar.control .sop :: parcelChars (firstByte k false e :: tail)).map fun c =>
        .receiveCharacter n c.encode) s = exec i (s.modLink n fun l => recordIs {} (heard (tail.length + 5) l)) :=
    fun hk hlength hrow => by rw [runAll_controlParcel hquiet hphase hk _ _ hlength, hrow]
  cases i
  case receiveReceipt m e c g v =>
    obtain ⟨rfl, rfl⟩ := Prod.mk.inj (Option.some.inj hbytes)
    refine arrives (by decide) rfl fun t => ?_
    change Host.Outcome.next (t.takeReceipt m e c g (takeCredit v.toNat)) = .next (t.takeReceipt m e
      ((c.zeroExtend 8).extractLsb' 0 6) ((g.zeroExtend 8).extractLsb' 0 7) (takeCredit (BitVec.ofNat 8 v.toNat).toNat))
    rw [extract_zeroExtend (by decide), extract_zeroExtend (by decide), takeCredit_byte]
  case receiveOpen m e r c =>
    simp only [controlBytes] at hbytes
    split at hbytes
    · rename_i hc
      obtain ⟨rfl, rfl⟩ := Prod.mk.inj (Option.some.inj hbytes)
      refine arrives (by decide) rfl fun t => ?_
      change Host.Outcome.next (t.takeOpen m e r.toNat (takeCredit c.toNat)) = .next (t.takeOpen m e
        ((BitVec.ofNat 8 (c.toNat % 16 + 16 * (r.toNat % 4))).extractLsb' 4 2).toNat
        (takeCredit ((BitVec.ofNat 8 (c.toNat % 16 + 16 * (r.toNat % 4))).extractLsb' 0 4).toNat))
      rw [openByte_credit hc, openByte_rank r.isLt]
    · exact nomatch hbytes
  case receiveGrant m e v =>
    obtain ⟨rfl, rfl⟩ := Prod.mk.inj (Option.some.inj hbytes)
    refine arrives (by decide) rfl fun t => ?_
    change Host.Outcome.next (t.takeGrant m e (takeCredit v.toNat)) = .next (t.takeGrant m e
      (takeCredit (BitVec.ofNat 8 v.toNat).toNat))
    rw [takeCredit_byte]
  case receiveQuery m e | receiveClose m e | receiveCloseAck m e | receiveDrop m e =>
    obtain ⟨rfl, rfl⟩ := Prod.mk.inj (Option.some.inj hbytes)
    exact arrives (by decide) rfl fun t => rfl
  all_goals exact nomatch hbytes

end Sys2Proof.Machine
end

section
/-! The family of chapter 2: the transmitter's characters and the ends of transmissions (R16, R22, R32-R36). -/

namespace Sys2Proof.Machine
open Sys2Proof.Safety

/-! ## The transmitter, period by period (R22, R23, R32-R36) -/

theorem charEnds_iff (t : Tx) : t.charEnds = true ↔ 12 * t.bitTime ≤ t.elapsed + 1 := by
  rw [Tx.charEnds, decide_eq_true_iff]
  rfl

section
variable {u : LineUnit}

theorem txTick_of_within (h : ¬ u.tx.charEnds = true) :
    u.txTick = { u with tx := { u.tx with elapsed := u.tx.elapsed + 1 } } := by
  rw [LineUnit.txTick, if_neg h]

theorem txDue_of_within (n : LinkId) (h : ¬ u.tx.charEnds = true) : u.txDue n = [] := by
  rw [LineUnit.txDue, if_neg h]

theorem txTick_next_char {c : LineChar} {rest : List LineChar} (h : u.tx.charEnds = true) (hphase : u.tx.phase = .parcel)
    (hrest : u.tx.rest = c :: rest) :
    u.txTick = { u with tx := { u.tx with char := c, rest := rest, elapsed := 0, bitTime := u.divider + 1 } } := by
  simp only [LineUnit.txTick, h, if_true, hphase, hrest]

theorem txDue_next_char {c : LineChar} {rest : List LineChar} (n : LinkId) (h : u.tx.charEnds = true)
    (hphase : u.tx.phase = .parcel) (hrest : u.tx.rest = c :: rest) : u.txDue n = [] := by
  simp only [LineUnit.txDue, h, if_true, hphase, hrest]

theorem txTick_last_char (h : u.tx.charEnds = true) (hphase : u.tx.phase = .parcel) (hrest : u.tx.rest = []) :
    u.txTick = { u with tx := { u.tx with elapsed := 0, bitTime := u.divider + 1 } } := by
  simp only [LineUnit.txTick, h, if_true, hphase, hrest]

theorem txDue_last_char (n : LinkId) (h : u.tx.charEnds = true) (hphase : u.tx.phase = .parcel) (hrest : u.tx.rest = []) :
    u.txDue n = match u.tx.descriptor with
      | some _ => [if u.tx.cut = true then .abortEnd n else .transmissionEnd n, .transmitChoice n]
      | none => [.transmitChoice n] := by
  simp only [LineUnit.txDue, h, if_true, hphase, hrest] <;> rfl

theorem txTick_fill (h : u.tx.charEnds = true) (hphase : u.tx.phase = .fill) : u.txTick = u.toFill := by
  simp only [LineUnit.txTick, h, if_true, hphase]

theorem txDue_fill (n : LinkId) (h : u.tx.charEnds = true) (hphase : u.tx.phase = .fill) :
    u.txDue n = [.transmitChoice n] := by
  simp only [LineUnit.txDue, h, if_true, hphase]

theorem txTick_mark (h : u.tx.charEnds = true) (hphase : u.tx.phase = .mark) :
    u.txTick = { u with tx := { u.tx with elapsed := u.tx.elapsed + 1 } } := by
  simp only [LineUnit.txTick, h, if_true, hphase]

theorem txDue_mark (n : LinkId) (h : u.tx.charEnds = true) (hphase : u.tx.phase = .mark) :
    u.txDue n = [.transmitterFillStart n] := by
  simp only [LineUnit.txDue, h, if_true, hphase]

end

/-! ## TXD (R22, R36) -/

theorem level_of_mark {t : Tx} (h : t.phase = .mark) : t.level = true := by
  simp only [Tx.level, h]

/-- TXD shows the bit of the character's bit time. -/
theorem level_of_bit {t : Tx} (h : t.phase ≠ .mark) {i : Nat} (hlow : i * t.bitTime ≤ t.elapsed)
    (hhigh : t.elapsed < (i + 1) * t.bitTime) : t.level = t.char.encode.getLsbD i := by
  have hbit : t.elapsed / t.bitTime = i := Nat.div_eq_of_lt_le hlow hhigh
  cases hphase : t.phase with
  | mark => exact absurd hphase h
  | fill => simp only [Tx.level, hphase, hbit]
  | parcel => simp only [Tx.level, hphase, hbit]

/-! ## The bits of a character (R22, R211) -/

theorem class_nine_iff (c : LineChar) : c.nine.getLsbD 8 = true ↔ ∃ k, c = .control k := by
  cases c with
  | data b => simp [LineChar.nine]
  | control k => exact iff_of_true (by cases k <;> decide) ⟨k, rfl⟩

/-- The code that a character's data bits spell. -/
def LineChar.byte : LineChar → Byte
  | .data b => b
  | .control c => c.code

theorem nine_getLsbD (c : LineChar) {i : Nat} (hi : i < 8) : c.nine.getLsbD i = c.byte.getLsbD i := by
  cases c with
  | data b => simp [LineChar.nine, LineChar.byte]; omega
  | control k =>
    revert hi; revert i
    cases k <;> decide

/-- Settles O46: each branch of the transmitter's period, TXD by the bit time, and the character's bits. -/
theorem transmitterMovesOn : Obligations.TransmitterMovesOn := by
  refine ⟨fun n u => ?_, fun t => ⟨level_of_mark, fun h i => level_of_bit h⟩, fun c => ?_⟩
  · simp only [← charEnds_iff]
    exact ⟨fun h => ⟨txTick_of_within h, txDue_of_within n h⟩,
      fun h hphase => ⟨fun c rest hrest => ⟨txTick_next_char h hphase hrest, txDue_next_char n h hphase hrest⟩,
        fun hrest => ⟨txTick_last_char h hphase hrest, txDue_last_char n h hphase hrest⟩⟩,
      fun h hphase => ⟨txDue_fill n h hphase, txTick_fill h hphase⟩,
      fun h hphase => ⟨txDue_mark n h hphase, txTick_mark h hphase⟩⟩
  · have hdata : ∀ i, i < 9 → c.encode.getLsbD (i + 1) = c.nine.getLsbD i := by
      intro i hi
      rw [encode_getLsbD c (i + 1) (by omega), if_neg (Nat.succ_ne_zero i), if_pos (by omega), Nat.add_sub_cancel]
    refine ⟨encode_start c, fun i hi => ?_, ?_, ?_, encode_stop c⟩
    · rw [hdata i (by omega), nine_getLsbD c hi]
      rcases c with b | (_ | _ | _ | _) <;> rfl
    · rw [hdata 8 (by omega), class_nine_iff]
    · rw [ones_odd_iff, encode_nine, encode_parity]
      simp

/-! ## A completion (R16) -/

/-- The blocks of a descriptor that count for link `n`'s use (R12). -/
def Descriptor.usedBlocks (n : LinkId) (r : Descriptor) : Nat :=
  if r.link = some n ∧ r.state ≠ .free ∧ r.state ≠ .completed then r.blocks.length else 0

theorem used_eq_sum_usedBlocks (s : State) (n : LinkId) :
    s.used n = ((List.finRange 64).map fun d => (s.desc d).usedBlocks n).sum := used_eq_sum s n

theorem usedBlocks_of_no_blocks {r : Descriptor} (h : r.blocks = []) (n : LinkId) : r.usedBlocks n = 0 := by
  unfold Descriptor.usedBlocks
  rw [h]
  exact ite_self 0

theorem usedBlocks_of_completed {r : Descriptor} (h : r.state = .completed) (n : LinkId) : r.usedBlocks n = 0 :=
  if_neg fun hused => hused.2.2 h

theorem used_congr {s t : State} {n : LinkId} (h : ∀ d, (t.desc d).usedBlocks n = (s.desc d).usedBlocks n) :
    t.used n = s.used n := by
  simp only [used_eq_sum_usedBlocks, h]

/-- What a window update being due rests on (R17, R152). -/
theorem updateDue_congr {s t : State} {n : LinkId} (hle : ∀ k, t.le k = s.le k)
    (hguarantee : ∀ k, (t.link k).guarantee = (s.link k).guarantee) (hdescs : t.freeDescs = s.freeDescs)
    (hblocks : t.freeBlocks = s.freeBlocks) (hused : ∀ k, t.used k = s.used k) : t.updateDue n = s.updateDue n := by
  simp only [State.updateDue, State.credit, State.grantableBlocks, State.grantableDescs, othersReserve_eq_sum, hle,
    hguarantee, hdescs, hblocks, hused]

/-- A release of blocks, written out (R15, R16). -/
theorem releaseBlocks_eq {s : State} {d : DescId} (h : (s.desc d).state ≠ .free) :
    s.releaseBlocks d = ({ s with freeBlocks := s.freeBlocks ++ (s.desc d).blocks }.setDesc d
      { s.desc d with blocks := [] }).rearm.reevaluate := if_neg h

theorem desc_releaseBlocks {s : State} {d : DescId} (h : (s.desc d).state ≠ .free) (x : DescId) :
    (s.releaseBlocks d).desc x = if x = d then { s.desc d with blocks := [] } else s.desc x := by
  rw [releaseBlocks_eq h, State.desc_reevaluate, State.desc_rearm, State.desc_setDesc]
  rfl

theorem appendCompletion_eq {s : State} {d : DescId} (h : (s.desc d).state ≠ .free) :
    s.appendCompletion d = ({ s with completion := s.completion ++ [d] }.setDesc d
      { s.desc d with state := .completed, onLine := some false }).setGlobal .completionReady := if_neg h

theorem desc_appendCompletion {s : State} {d : DescId} (h : (s.desc d).state ≠ .free) (x : DescId) :
    (s.appendCompletion d).desc x = if x = d then { s.desc d with state := .completed, onLine := some false } else s.desc x := by
  rw [appendCompletion_eq h, State.desc_setGlobal, State.desc_setDesc]
  rfl

/-- A completion record of a descriptor without blocks leaves every link's use alone. -/
theorem used_appendCompletion {s : State} {d : DescId} (hblocks : (s.desc d).blocks = []) (n : LinkId) :
    (s.appendCompletion d).used n = s.used n := by
  by_cases h : (s.desc d).state = .free
  · rw [State.appendCompletion, if_pos h]
  · refine used_congr fun x => ?_
    rw [desc_appendCompletion h]
    split
    · rename_i hx
      rw [hx, usedBlocks_of_completed rfl, usedBlocks_of_no_blocks hblocks]
    · rfl

/-- With reporting on, a completion releases the blocks and queues the record. -/
theorem completed_reporting {s : State} {d : DescId} (h : (s.desc d).state ≠ .free) :
    Completed true d s ((s.releaseBlocks d).appendCompletion d) := by
  have hkept : (s.releaseBlocks d).desc d = { s.desc d with blocks := [] } := by rw [desc_releaseBlocks h, if_pos rfl]
  have hheld : ((s.releaseBlocks d).desc d).state ≠ .free := by rw [hkept]; exact h
  have hdue : ∀ m, ((s.releaseBlocks d).appendCompletion d).updateDue m = (s.releaseBlocks d).updateDue m := fun m =>
    updateDue_congr (fun k => State.le_appendCompletion d _ k)
      (fun k => congrArg Link.guarantee (State.link_appendCompletion d _ k)) (State.freeDescs_appendCompletion d _)
      (State.freeBlocks_appendCompletion d _) (used_appendCompletion (by rw [hkept]))
  unfold Completed
  rw [if_pos rfl]
  refine ⟨?_, ?_, ?_, fun x hx => ?_, ?_, fun m => ?_, ?_, ?_⟩
  · rw [State.freeBlocks_appendCompletion, releaseBlocks_eq h]
    simp
  · rw [appendCompletion_eq hheld, ← State.completion_releaseBlocks d s]
    rfl
  · rw [desc_appendCompletion hheld, if_pos rfl, hkept]
  · rw [desc_appendCompletion hheld, if_neg hx, desc_releaseBlocks h, if_neg hx]
  · rw [State.armed_appendCompletion, State.freeBlocks_appendCompletion, releaseBlocks_eq h]
    simp [armed_rearm, State.setDesc]
  · rw [State.link_appendCompletion, hdue, releaseBlocks_eq h, State.link_reevaluate, updateDue_reevaluate,
      State.link_rearm]
    rfl
  · rw [appendCompletion_eq hheld, ← State.globalEvents_releaseBlocks d s]
    rfl
  · rw [appendCompletion_eq hheld, releaseBlocks_eq h]
    unfold State.rearm
    split <;> rfl

theorem ascending_singleton (d : DescId) : ascending [d] = [d] := by
  revert d; decide

theorem completed_completeAll {s : State} {d : DescId} (h : (s.desc d).state ≠ .free) (reporting : Bool) :
    Completed reporting d s (s.completeAll reporting [d]) := by
  unfold State.completeAll
  rw [ascending_singleton]
  cases reporting with
  | true => exact completed_reporting h
  | false => exact releasedOnly_releaseToFree h

/-! ## The ends of transmissions (R34-R36) -/

theorem toFill_eq (n : LinkId) (s : State) : s.modLU n LineUnit.toFill = s.modLink n idleStarted := rfl

theorem markOver_iff (t : Tx) : t.markOver = true ↔ t.phase = .mark ∧ 12 * t.bitTime ≤ t.elapsed := by
  rw [Tx.markOver, decide_eq_true_iff]
  rfl

theorem exec_transmissionEnd {n : LinkId} {s : State} {d : DescId} (hphase : (s.lu n).tx.phase = .parcel)
    (hdescriptor : (s.lu n).tx.descriptor = some d) :
    exec (.transmissionEnd n) s = .next ((s.modLink n idleStarted).wholeEnd n d) := by
  simp only [exec, execTransmissionEnd, hphase, hdescriptor, toFill_eq]

theorem exec_abortEnd {n : LinkId} {s : State} {d : DescId} (hphase : (s.lu n).tx.phase = .parcel)
    (hcut : (s.lu n).tx.cut = true) (hdescriptor : (s.lu n).tx.descriptor = some d) :
    exec (.abortEnd n) s = .next ((s.modLink n idleStarted).cutEnd n d) := by
  simp only [exec, execAbortEnd, hphase, hcut, hdescriptor, toFill_eq, and_self, if_true]

theorem wholeEnd_detached {n : LinkId} {s : State} {d : DescId} (h : (s.desc d).state = .detached) :
    s.wholeEnd n d = (s.completeDetached n d).drainTest n := by
  simp only [State.wholeEnd, h]

theorem cutEnd_detached {n : LinkId} {s : State} {d : DescId} (h : (s.desc d).state = .detached) :
    s.cutEnd n d = (s.completeDetached n d).drainTest n := by
  simp only [State.cutEnd, h]

/-- The end of a DETACHED copy: freed where it is to be discarded, completed otherwise (R16, R21). -/
theorem detached_end {n : LinkId} {s : State} {d : DescId} (h : (s.desc d).state = .detached) :
    ((s.desc d).outcome = some .discard → ReleasedOnly d s (s.completeDetached n d)) ∧
      ((s.desc d).outcome ≠ some .discard →
        Completed (s.le n).latched.reporting d s (s.completeDetached n d)) := by
  have hheld : (s.desc d).state ≠ .free := by rw [h]; decide
  refine ⟨fun hdiscard => ?_, fun hother => ?_⟩
  · rw [State.completeDetached, if_pos hdiscard]
    exact releasedOnly_releaseToFree hheld
  · rw [State.completeDetached, if_neg hother]
    exact completed_completeAll hheld _

theorem dataEnd_eq (e : LinkEngine) :
    e.dataEnd = { e with
      timer := if (e.session = SessionState.open_ ∨ e.session = SessionState.draining) ∧ e.timer = none then
        some { mode := .resend, duration := e.latched.rto * 2 ^ min e.retryCount 3, count := 0 } else e.timer } := by
  unfold LinkEngine.dataEnd
  have hstopped : (e.session.sending && e.timer.isNone) = true ↔
      (e.session = SessionState.open_ ∨ e.session = SessionState.draining) ∧ e.timer = none := by
    rw [Bool.and_eq_true, Option.isNone_iff_eq_none]
    cases e.session <;> simp [SessionState.sending]
  by_cases h : (e.session.sending && e.timer.isNone) = true
  · rw [if_pos h, if_pos (hstopped.mp h)]
    rfl
  · rw [if_neg h, if_neg (mt hstopped.mpr h)]

/-- The end of a RETAINED copy sent whole: it goes off line, and RESEND mode may start (R34, R123). -/
theorem wholeEnd_retained {n : LinkId} {s : State} {d : DescId} (h : (s.desc d).state = .retained) :
    s.wholeEnd n d = { s with descs := s.descs.set d { s.desc d with onLine := some false } }.modLE n fun e => { e with
      timer := if (e.session = SessionState.open_ ∨ e.session = SessionState.draining) ∧ e.timer = none then
        some { mode := .resend, duration := e.latched.rto * 2 ^ min e.retryCount 3, count := 0 } else e.timer } := by
  have hheld : ¬ (s.desc d).state = .free := by rw [h]; decide
  have hoff : s.offLine d = { s with descs := s.descs.set d { s.desc d with onLine := some false } } := if_neg hheld
  simp only [State.wholeEnd, h, hoff, funext dataEnd_eq]

/-- Settles O50: FILL begins, then what the descriptor's state asks for. -/
theorem transmissionsEnd : Obligations.TransmissionsEnd := by
  intro n s tx fill ends
  have hfill : fill.link n = idleStarted (s.link n) := State.link_modLink_same n idleStarted s
  have hle : fill.le n = s.le n := (congrArg Link.le hfill).trans rfl
  have hends : ∀ (i : Instr) (d : DescId), ((s.desc d).state = .detached →
      exec i s = .next ((fill.completeDetached n d).drainTest n)) → ends i d := fun i d hexec =>
    ⟨fun h hdiscard => ⟨_, (detached_end (s := fill) (n := n) h).1 hdiscard, hexec h⟩,
      fun h hother => ⟨_, hle ▸ (detached_end (s := fill) (n := n) h).2 hother, hexec h⟩⟩
  refine ⟨fun hnone => ?_, fun hnone => ?_, fun d hphase hdescriptor => ⟨hends _ d fun h => ?_, fun hcut => hends _ d fun h => ?_,
    fun h => ?_⟩, fun hphase hcut hdescriptor => ?_, ?_⟩
  · simp only [exec, execTransmissionEnd]
    split
    · rename_i hphase hdescriptor
      rcases hnone with hnone | hnone
      · exact absurd hphase hnone
      · exact nomatch hnone.symm.trans hdescriptor
    · rfl
  · refine if_neg ?_
    rintro ⟨hphase, hcut⟩
    rcases hnone with hnone | hnone
    · exact hnone hphase
    · exact nomatch hnone.symm.trans hcut
  · rw [exec_transmissionEnd hphase hdescriptor]
    exact congrArg _ (wholeEnd_detached (s := fill) h)
  · rw [exec_abortEnd hphase hcut hdescriptor]
    exact congrArg _ (cutEnd_detached (s := fill) h)
  · rw [exec_transmissionEnd hphase hdescriptor]
    exact congrArg _ (wholeEnd_retained (s := fill) h)
  · have hphase' : (s.lu n).tx.phase = .parcel := hphase
    have hcut' : (s.lu n).tx.cut = true := hcut
    have hdescriptor' : (s.lu n).tx.descriptor = none := hdescriptor
    simp only [exec, execAbortEnd, hphase', hcut', hdescriptor', toFill_eq, and_self, if_true]
    rfl
  · simp only [exec, execTransmitterFillStart, markOver_iff, toFill_eq]
    split <;> rfl

end Sys2Proof.Machine
end

section
/-! The family of chapter 2: the receive recogniser, one period after another and over a whole line (R23, R25, R27). -/

namespace Sys2Proof.Machine
open Sys2Proof.Safety

/-! ## One period of the recogniser (R25) -/

theorem phase_rxTick (prev now : Bool) (u : LineUnit) :
    (u.rxTick prev now).rx.phase = u.rx.phase.tick (u.divider + 1) prev now := rfl

theorem space_rxTick (prev now : Bool) (u : LineUnit) :
    (u.rxTick prev now).rx.space =
      spaceKept (u.rx.phase.tick (u.divider + 1) prev now).recognised (u.spaceNow prev now) := rfl

theorem tick_of_settle_waiting {p : RxPhase} (h : p.settle = .waiting) (B : Nat) (prev now : Bool) :
    p.tick B prev now = if prev = true ∧ now = false then .receiving B 0 0 else .waiting := by
  unfold RxPhase.tick
  rw [h]
  cases prev <;> cases now <;> rfl

theorem tick_of_settle_waitMark {p : RxPhase} (h : p.settle = .waitMark) (B : Nat) (prev now : Bool) :
    p.tick B prev now = if now = true then .waiting else .waitMark := by
  unfold RxPhase.tick
  rw [h]

/-- Past the sample of the stop bit a character is over. -/
theorem settle_of_over {b e : Nat} {x : BitVec 12} (h : 11 * b + b / 2 ≤ e) :
    (RxPhase.receiving b e x).settle = if x.getLsbD 11 = true then .waiting else .waitMark := if_pos h

theorem settle_of_within {b e : Nat} {x : BitVec 12} (h : e < 11 * b + b / 2) :
    (RxPhase.receiving b e x).settle = .receiving b e x := if_neg (Nat.not_le.mpr h)

theorem tick_of_within {b e : Nat} {x : BitVec 12} (h : e < 11 * b + b / 2) (B : Nat) (prev now : Bool) :
    (RxPhase.receiving b e x).tick B prev now =
      if (e + 1) % b ≠ b / 2 then .receiving b (e + 1) x
      else if (e + 1) / b = 0 ∧ now = true then .waiting
      else .receiving b (e + 1) (if now = true then x ||| BitVec.twoPow 12 ((e + 1) / b) else x) := by
  unfold RxPhase.tick
  rw [settle_of_within h]
  simp only [receivePeriod, ne_eq, ite_not]

theorem tick_within_cases {b e : Nat} {x : BitVec 12} (h : e < 11 * b + b / 2) (B : Nat) (prev now : Bool) :
    (RxPhase.receiving b e x).tick B prev now = .waiting ∨
      ∃ y, (RxPhase.receiving b e x).tick B prev now = .receiving b (e + 1) y := by
  rw [tick_of_within h]
  split_ifs
  · exact .inr ⟨_, rfl⟩
  · exact .inl rfl
  all_goals exact .inr ⟨_, rfl⟩

/-- RXD's return to mark is recognised while the receiver waits for it (R27). -/
theorem rxdReturnsToMark_mem_rxDue (n : LinkId) (prev now : Bool) (u : LineUnit) :
    .rxdReturnsToMark n ∈ u.rxDue n prev now ↔ u.rx.phase.settle = .waitMark ∧ now = true := by
  unfold LineUnit.rxDue
  cases (u.rx.phase.tick u.bitTime prev now).recognised <;> split_ifs <;> simp_all

theorem receiveCharacter_mem_rxDue (n : LinkId) (prev now : Bool) (u : LineUnit) (y : BitVec 12) :
    .receiveCharacter n y ∈ u.rxDue n prev now ↔ (u.rxTick prev now).rx.phase.recognised = some y := by
  unfold LineUnit.rxDue LineUnit.rxTick
  cases (u.rx.phase.tick u.bitTime prev now).recognised <;> split_ifs <;> simp [eq_comm]

theorem recognised_eq_some_iff (p : RxPhase) (y : BitVec 12) :
    p.recognised = some y ↔ ∃ b, p = .receiving b (11 * b + b / 2) y := by
  unfold RxPhase.recognised stopSample
  cases p with
  | waiting => simp
  | waitMark => simp
  | receiving b e x => simp

theorem recognised_receiving (b e : Nat) (x : BitVec 12) :
    (RxPhase.receiving b e x).recognised = if e = 11 * b + b / 2 then some x else none := rfl

/-! ## A space that lasts (R27) -/

/-- A Line Unit whose receiver waits for mark, a space being measured or none. -/
def SpaceLasts (space : Option SpaceRun) (u : LineUnit) : Prop := u.rx.phase.settle = .waitMark ∧ u.rx.space = space

section
variable {u : LineUnit} {n : LinkId}

theorem rxDue_mark_of_spaceLasts {space : Option SpaceRun} (h : SpaceLasts space u) :
    u.rxDue n false true = [.rxdReturnsToMark n] := by
  obtain ⟨hphase, -⟩ := h
  simp [LineUnit.rxDue, tick_of_settle_waitMark hphase, hphase, LineUnit.spaceNow, Receiver.spaceNow, RxPhase.recognised]

theorem spaceNow_of_spaceLasts {space : Option SpaceRun} (h : SpaceLasts space u) :
    u.spaceNow false false = space.map fun run => { run with elapsed := run.elapsed + 1 } := by
  obtain ⟨-, hspace⟩ := h
  rw [← hspace]
  rfl

theorem rxDue_space_of_spaceLasts {space : Option SpaceRun} (h : SpaceLasts space u) :
    u.rxDue n false false = if (u.spaceNow false false).any SpaceRun.isBreak then [.lineBreak n] else [] := by
  obtain ⟨hphase, -⟩ := h
  simp [LineUnit.rxDue, tick_of_settle_waitMark hphase, RxPhase.recognised]

theorem spaceLasts_rxTick {space : Option SpaceRun} (h : SpaceLasts space u) :
    SpaceLasts (if (u.spaceNow false false).any SpaceRun.isBreak then none else u.spaceNow false false)
      (u.rxTick false false) := by
  obtain ⟨hphase, -⟩ := h
  refine ⟨?_, ?_⟩
  · rw [phase_rxTick, tick_of_settle_waitMark hphase]
    rfl
  · rw [space_rxTick, tick_of_settle_waitMark hphase]
    simp [spaceKept, RxPhase.recognised]

end

/-- A space that is not measured ends in a return to mark, however long it lasts. -/
theorem recognisedOver_unmeasured {n : LinkId} (k : Nat) : ∀ {u : LineUnit}, SpaceLasts none u →
    recognisedOver n false u (List.replicate k false ++ [true]) = [.rxdReturnsToMark n] := by
  induction k with
  | zero =>
    intro u h
    rw [List.replicate_zero, List.nil_append, recognisedOver, rxDue_mark_of_spaceLasts h]
    rfl
  | succ k ih =>
    intro u h
    have hspace : u.spaceNow false false = none := spaceNow_of_spaceLasts h
    have hnext : SpaceLasts none (u.rxTick false false) := by
      have hnext := spaceLasts_rxTick h
      rw [hspace] at hnext
      exact hnext
    rw [List.replicate_succ, List.cons_append, recognisedOver, rxDue_space_of_spaceLasts h, hspace, ih hnext]
    rfl

/-- A space that is being measured is one break when it has lasted 2 character times, and ends in a return to mark. -/
theorem recognisedOver_measured {n : LinkId} (k : Nat) : ∀ {u : LineUnit} {e c : Nat},
    SpaceLasts (some { elapsed := e, charTime := c }) u → e < 2 * c →
    recognisedOver n false u (List.replicate k false ++ [true]) =
      if 2 * c ≤ e + k then [.lineBreak n, .rxdReturnsToMark n] else [.rxdReturnsToMark n] := by
  induction k with
  | zero =>
    intro u e c h he
    rw [if_neg (by omega), List.replicate_zero, List.nil_append, recognisedOver, rxDue_mark_of_spaceLasts h]
    rfl
  | succ k ih =>
    intro u e c h he
    have hspace : u.spaceNow false false = some { elapsed := e + 1, charTime := c } := spaceNow_of_spaceLasts h
    have hbreak : (u.spaceNow false false).any SpaceRun.isBreak = decide (2 * c ≤ e + 1) := by
      rw [hspace]
      rfl
    have hnext := spaceLasts_rxTick h
    rw [hbreak] at hnext
    rw [List.replicate_succ, List.cons_append, recognisedOver, rxDue_space_of_spaceLasts h, hbreak]
    by_cases hnow : 2 * c ≤ e + 1
    · simp only [hnow, decide_true, if_true] at hnext ⊢
      rw [recognisedOver_unmeasured k hnext, if_pos (by omega)]
      rfl
    · simp only [hnow, decide_false, hspace] at hnext ⊢
      rw [if_neg Bool.false_ne_true, List.nil_append, ih hnext (by omega), Nat.add_right_comm, Nat.add_assoc]

/-! ## A character on the line (R23, R25) -/

/-- The samples of the bits of `x` whose middle has come by period `k`, at `B` periods a bit. -/
def SampledBy (B k : Nat) (x y : BitVec 12) : Prop :=
  ∀ i < 12, y.getLsbD i = (x.getLsbD i && decide (i * B + B / 2 ≤ k))

/-- A Line Unit in period `k` of a character that RXD spells as `x`, counted from the falling edge of its start bit. Only an
all-space character's space has lasted from that edge. -/
def Hears (B k : Nat) (x : BitVec 12) (u : LineUnit) : Prop :=
  (∃ y, u.rx.phase = .receiving B k y ∧ SampledBy B k x y) ∧
    (∀ run, u.rx.space = some run → run.charTime = 12 * B ∧ run.elapsed ≤ k) ∧
    (x = 0 → u.rx.space = some { elapsed := k, charTime := 12 * B })

/-- The level of RXD in period `k` of a character. -/
def levelAt (B : Nat) (x : BitVec 12) (k : Nat) : Bool := x.getLsbD (k / B)

theorem sampledBy_zero {B : Nat} (hB : 2 ≤ B) (x : BitVec 12) : SampledBy B 0 x 0 := by
  intro i _
  have hmiddle : ¬ i * B + B / 2 ≤ 0 := by omega
  simp [hmiddle]

theorem eq_zero_of_sampledBy {B k : Nat} {y : BitVec 12} (h : SampledBy B k 0 y) : y = 0#12 := by
  apply BitVec.eq_of_getLsbD_eq
  intro i hi
  rw [h i hi]
  simp

/-- With the sample of the stop bit all samples are taken. -/
theorem eq_of_sampledBy_stop {B : Nat} {x y : BitVec 12} (h : SampledBy B (11 * B + B / 2) x y) : y = x := by
  apply BitVec.eq_of_getLsbD_eq
  intro i hi
  have hmiddle : i * B + B / 2 ≤ 11 * B + B / 2 :=
    Nat.add_le_add_right (Nat.mul_le_mul_right B (Nat.lt_succ_iff.mp hi)) _
  rw [h i hi, decide_eq_true hmiddle, Bool.and_true]

/-- Bit `i` has its middle in a period of remainder `B / 2` in its bit time. -/
theorem middle_eq_iff {B i k : Nat} (hB : 2 ≤ B) : i * B + B / 2 = k ↔ k / B = i ∧ k % B = B / 2 := by
  have hhalf : B / 2 < B := by omega
  constructor
  · rintro rfl
    rw [Nat.add_comm, Nat.add_mul_div_right _ _ (by omega), Nat.add_mul_mod_self_right, Nat.div_eq_of_lt hhalf,
      Nat.mod_eq_of_lt hhalf, Nat.zero_add]
    exact ⟨rfl, rfl⟩
  · rintro ⟨rfl, hmod⟩
    rw [← hmod, Nat.mul_comm]
    exact Nat.div_add_mod k B

/-- A period that is no bit's middle takes no sample. -/
theorem sampledBy_between {B k : Nat} {x y : BitVec 12} (hB : 2 ≤ B) (h : SampledBy B k x y)
    (hk : (k + 1) % B ≠ B / 2) : SampledBy B (k + 1) x y := by
  intro i hi
  have hmiddle : i * B + B / 2 ≠ k + 1 := fun heq => hk ((middle_eq_iff hB).mp heq).2
  have hiff : i * B + B / 2 ≤ k + 1 ↔ i * B + B / 2 ≤ k := by omega
  rw [h i hi]
  simp only [hiff]

/-- A bit's middle samples that bit. -/
theorem sampledBy_middle {B k : Nat} {x y : BitVec 12} (hB : 2 ≤ B) (h : SampledBy B k x y) (hk : (k + 1) % B = B / 2) :
    SampledBy B (k + 1) x (if levelAt B x (k + 1) = true then y ||| BitVec.twoPow 12 ((k + 1) / B) else y) := by
  intro i hi
  by_cases hbit : (k + 1) / B = i
  · have hmiddle : i * B + B / 2 = k + 1 := (middle_eq_iff hB).mpr ⟨hbit, hk⟩
    have hnot : ¬ i * B + B / 2 ≤ k := by omega
    have hclear : y.getLsbD i = false := by simp [h i hi, hnot]
    unfold levelAt
    rw [hbit, decide_eq_true (le_of_eq hmiddle), Bool.and_true]
    split
    · rename_i hlevel
      simp [hlevel, hi]
    · rename_i hlevel
      rw [hclear]
      simpa using hlevel
  · have hother : i * B + B / 2 ≠ k + 1 := fun heq => hbit ((middle_eq_iff hB).mp heq).1
    have hiff : i * B + B / 2 ≤ k + 1 ↔ i * B + B / 2 ≤ k := by omega
    have hkept : (y ||| BitVec.twoPow 12 ((k + 1) / B)).getLsbD i = y.getLsbD i := by
      simp [BitVec.getLsbD_twoPow, hbit]
    simp only [hiff, ← h i hi]
    split
    · exact hkept
    · rfl

section
variable {B k : Nat} {x : BitVec 12} {u : LineUnit} {n : LinkId}

/-- The start bit's sample is at space, so that a character goes on to its stop bit. -/
theorem phase_rxTick_of_hears (hB : 2 ≤ B) (hstart : x.getLsbD 0 = false) (h : Hears B k x u) (hk : k < 11 * B + B / 2) :
    ∃ y, (u.rxTick (levelAt B x k) (levelAt B x (k + 1))).rx.phase = .receiving B (k + 1) y ∧ SampledBy B (k + 1) x y := by
  obtain ⟨⟨y, hphase, hsampled⟩, -, -⟩ := h
  rw [phase_rxTick, hphase, tick_of_within hk]
  split
  · rename_i hbetween
    exact ⟨y, rfl, sampledBy_between hB hsampled hbetween⟩
  · rename_i hmiddle
    have hgoes : ¬ ((k + 1) / B = 0 ∧ levelAt B x (k + 1) = true) := by
      rintro ⟨hzero, hlevel⟩
      rw [levelAt, hzero, hstart] at hlevel
      exact nomatch hlevel
    rw [if_neg hgoes]
    exact ⟨_, rfl, sampledBy_middle hB hsampled (not_not.mp hmiddle)⟩

theorem spaceNow_of_hears (h : Hears B k x u) (hk : k < 11 * B + B / 2) (prev now : Bool) :
    ∀ run, u.spaceNow prev now = some run → run.charTime = 12 * B ∧ run.elapsed ≤ k + 1 := by
  obtain ⟨⟨y, hphase, -⟩, hspace, -⟩ := h
  intro run hrun
  unfold LineUnit.spaceNow Receiver.spaceNow at hrun
  rw [hphase, settle_of_within hk] at hrun
  split_ifs at hrun with hnow hprev
  · obtain rfl := Option.some.inj hrun
    exact ⟨rfl, Nat.zero_le _⟩
  · obtain ⟨before, hbefore, rfl⟩ := Option.map_eq_some_iff.mp hrun
    obtain ⟨hrate, helapsed⟩ := hspace before hbefore
    exact ⟨hrate, Nat.succ_le_succ helapsed⟩

theorem not_break_of_hears (hB : 2 ≤ B) (h : Hears B k x u) (hk : k < 11 * B + B / 2) (prev now : Bool) :
    (u.spaceNow prev now).any SpaceRun.isBreak = false := by
  cases hspace : u.spaceNow prev now with
  | none => rfl
  | some run =>
    obtain ⟨hrate, helapsed⟩ := spaceNow_of_hears h hk prev now run hspace
    have hshort : ¬ 2 * run.charTime ≤ run.elapsed := by omega
    simp [SpaceRun.isBreak, hshort]

theorem hears_rxTick (hB : 2 ≤ B) (hstart : x.getLsbD 0 = false) (h : Hears B k x u) (hk : k < 11 * B + B / 2) :
    Hears B (k + 1) x (u.rxTick (levelAt B x k) (levelAt B x (k + 1))) := by
  obtain ⟨y, hphase, hsampled⟩ := phase_rxTick_of_hears hB hstart h hk
  refine ⟨⟨y, hphase, hsampled⟩, fun run hrun => ?_, ?_⟩
  · refine spaceNow_of_hears h hk (levelAt B x k) (levelAt B x (k + 1)) run ?_
    rw [space_rxTick, spaceKept] at hrun
    split at hrun
    · exact nomatch hrun
    · exact hrun
  · rintro rfl
    have hblank : y = 0#12 := eq_zero_of_sampledBy hsampled
    have hbreak := not_break_of_hears hB h hk (levelAt B 0 k) (levelAt B 0 (k + 1))
    have hnow : u.spaceNow (levelAt B 0 k) (levelAt B 0 (k + 1)) = some { elapsed := k + 1, charTime := 12 * B } := by
      obtain ⟨-, -, hspace⟩ := h
      unfold LineUnit.spaceNow Receiver.spaceNow
      rw [hspace rfl, levelAt, levelAt]
      simp
    rw [phase_rxTick] at hphase
    rw [space_rxTick, hphase, spaceKept, hbreak, hblank, Bool.or_false, recognised_receiving, hnow]
    split_ifs <;> simp_all

theorem rxDue_of_hears (hB : 2 ≤ B) (hstart : x.getLsbD 0 = false) (h : Hears B k x u) (hk : k < 11 * B + B / 2) :
    u.rxDue n (levelAt B x k) (levelAt B x (k + 1)) =
      if k + 1 = 11 * B + B / 2 then [.receiveCharacter n x] else [] := by
  obtain ⟨y, hphase, hsampled⟩ := phase_rxTick_of_hears hB hstart h hk
  rw [phase_rxTick] at hphase
  have hinside : u.rx.phase.settle ≠ .waitMark := by
    obtain ⟨⟨z, hbefore, -⟩, -, -⟩ := h
    rw [hbefore, settle_of_within hk]
    exact nofun
  unfold LineUnit.rxDue LineUnit.bitTime
  rw [hphase, not_break_of_hears hB h hk, recognised_receiving]
  by_cases hstop : k + 1 = 11 * B + B / 2
  · rw [hstop] at hsampled
    rw [if_pos hstop, if_pos hstop, if_neg Bool.false_ne_true, if_neg fun hmark => hinside hmark.1,
      eq_of_sampledBy_stop hsampled]
    rfl
  · rw [if_neg hstop, if_neg hstop, if_neg Bool.false_ne_true, if_neg fun hmark => hinside hmark.1]
    rfl

/-- The falling edge of a start bit. -/
theorem hears_start (hB : 2 ≤ B) (hdivider : B = u.divider + 1) (hphase : u.rx.phase = .waiting) (x : BitVec 12) :
    Hears B 0 x (u.rxTick true false) ∧ u.rxDue n true false = [] := by
  have htick : u.rx.phase.tick (u.divider + 1) true false = .receiving B 0 0 := by
    rw [hphase, hdivider]
    rfl
  have hspace : u.spaceNow true false = some { elapsed := 0, charTime := 12 * B } := by
    unfold LineUnit.spaceNow
    rw [hphase, hdivider]
    rfl
  have hfirst : ¬ 0 = 11 * B + B / 2 := by omega
  have hbreak : (u.spaceNow true false).any SpaceRun.isBreak = false := by
    rw [hspace]
    have : ¬ 2 * (12 * B) ≤ 0 := by omega
    simp [SpaceRun.isBreak, this]
  have hkept : (u.rxTick true false).rx.space = some { elapsed := 0, charTime := 12 * B } := by
    rw [space_rxTick, htick, recognised_receiving, if_neg hfirst, spaceKept, hbreak, hspace]
    rfl
  refine ⟨⟨⟨0, by rw [phase_rxTick, htick], sampledBy_zero hB x⟩, fun run hrun => ?_, fun _ => hkept⟩, ?_⟩
  · rw [hkept] at hrun
    obtain rfl := Option.some.inj hrun
    exact ⟨rfl, le_refl 0⟩
  · unfold LineUnit.rxDue LineUnit.bitTime
    rw [htick, recognised_receiving, if_neg hfirst, hbreak, hphase]
    rfl

end

/-- The rest of a character on the line, and what comes after it. -/
theorem recognisedOver_of_hears {B : Nat} {x : BitVec 12} {n : LinkId} (hB : 2 ≤ B) (hstart : x.getLsbD 0 = false)
    (rest : List Bool) (j : Nat) : ∀ {k : Nat} {u : LineUnit}, Hears B k x u → k + (j + 1) = 11 * B + B / 2 →
    ∃ v, Hears B (11 * B + B / 2) x v ∧
      recognisedOver n (levelAt B x k) u ((List.range' (k + 1) (j + 1)).map (levelAt B x) ++ rest) =
        .receiveCharacter n x :: recognisedOver n (levelAt B x (11 * B + B / 2)) v rest := by
  induction j with
  | zero =>
    intro k u h hk
    have hlast : k + 1 = 11 * B + B / 2 := hk
    have hnext := hears_rxTick hB hstart h (by omega)
    refine ⟨_, hlast ▸ hnext, ?_⟩
    rw [List.range'_one, List.map_singleton, List.singleton_append, recognisedOver, rxDue_of_hears hB hstart h (by omega),
      if_pos hlast, ← hlast]
    rfl
  | succ j ih =>
    intro k u h hk
    have hnext := hears_rxTick hB hstart h (by omega)
    obtain ⟨v, hv, hrest⟩ := ih hnext (by omega)
    refine ⟨v, hv, ?_⟩
    rw [List.range'_succ, List.map_cons, List.cons_append, recognisedOver, rxDue_of_hears hB hstart h (by omega),
      if_neg (by omega), List.nil_append, hrest]

/-- A whole character on the line, from the falling edge of its start bit to the sample of its stop bit. -/
theorem recognisedOver_character {u : LineUnit} {x : BitVec 12} (n : LinkId) (hdivider : 3 ≤ u.divider)
    (hphase : u.rx.phase = .waiting) (hstart : x.getLsbD 0 = false) (rest : List Bool) :
    let B := u.divider + 1
    ∃ v, Hears B (11 * B + B / 2) x v ∧
      recognisedOver n true u ((List.range (11 * B + B / 2 + 1)).map (levelAt B x) ++ rest) =
        .receiveCharacter n x :: recognisedOver n (levelAt B x (11 * B + B / 2)) v rest := by
  intro B
  have hB : 2 ≤ B := by omega
  obtain ⟨hfirst, hdue⟩ := hears_start (n := n) hB rfl hphase x
  have hlevel : levelAt B x 0 = false := by rw [levelAt, Nat.zero_div, hstart]
  obtain ⟨v, hv, hrest⟩ := recognisedOver_of_hears (n := n) hB hstart rest (11 * B + B / 2 - 1) hfirst (by omega)
  refine ⟨v, hv, ?_⟩
  rw [hlevel, show 11 * B + B / 2 - 1 + 1 = 11 * B + B / 2 from by omega] at hrest
  rw [List.range_eq_range', List.range'_succ, List.map_cons, List.cons_append, recognisedOver, hlevel, hdue, List.nil_append,
    hrest]

/-- An all-space character that has been received leaves a space being measured. -/
theorem spaceLasts_of_hears {B : Nat} {u : LineUnit} (h : Hears B (11 * B + B / 2) 0 u) :
    SpaceLasts (some { elapsed := 11 * B + B / 2, charTime := 12 * B }) u := by
  obtain ⟨⟨y, hphase, hsampled⟩, -, hspace⟩ := h
  refine ⟨?_, hspace rfl⟩
  rw [hphase, settle_of_over (le_refl _), eq_zero_of_sampledBy hsampled]
  rfl

/-- A space from the mark on: one held character, and a break where it lasts for more than 2 character times. -/
theorem recognisedOver_space {u : LineUnit} (n : LinkId) (hdivider : 3 ≤ u.divider) (hphase : u.rx.phase = .waiting)
    {k : Nat} (hk : 12 * (u.divider + 1) ≤ k) :
    recognisedOver n true u (List.replicate k false ++ [true]) =
      .receiveCharacter n 0 :: if 24 * (u.divider + 1) < k then [.lineBreak n, .rxdReturnsToMark n]
        else [.rxdReturnsToMark n] := by
  obtain ⟨B, hB⟩ : ∃ B, B = u.divider + 1 := ⟨_, rfl⟩
  obtain ⟨j, rfl⟩ : ∃ j, k = (11 * B + B / 2 + 1) + j := ⟨k - (11 * B + B / 2 + 1), by omega⟩
  have hspace : (List.range (11 * B + B / 2 + 1)).map (levelAt B 0) = List.replicate (11 * B + B / 2 + 1) false := by
    refine List.eq_replicate_iff.mpr ⟨by simp, fun b hb => ?_⟩
    obtain ⟨i, -, rfl⟩ := List.mem_map.mp hb
    simp [levelAt]
  obtain ⟨v, hv, hline⟩ := recognisedOver_character n hdivider hphase (x := 0) (by decide)
    (List.replicate j false ++ [true])
  rw [← hB, hspace, show levelAt B 0 (11 * B + B / 2) = false from by simp [levelAt]] at hline
  rw [← hB] at hv hk ⊢
  rw [List.replicate_add, List.append_assoc, hline, recognisedOver_measured j (spaceLasts_of_hears hv) (by omega)]
  refine congrArg _ (if_congr ?_ rfl rfl)
  omega

/-- Settles O45: each period by the phase, each whole line by its periods. -/
theorem receiverSamplesRxd : Obligations.ReceiverSamplesRxd := by
  intro n u B phase found awaited
  refine ⟨fun prev now => ⟨_, rfl, rfl⟩, fun hwaiting prev now => ?_, fun hmark prev now => ⟨?_, ?_⟩,
    fun b e x hphase _ prev now => ⟨fun hover => ⟨?_, ?_⟩, fun hwithin => ⟨?_, fun y => ?_⟩⟩,
    fun hdivider hwaiting hspace => ⟨fun x hstart => ?_, fun k => ?_, fun k hlow hhigh => ?_⟩,
    fun hmark hspace => ⟨fun k => ?_, fun k hk => ?_⟩⟩
  · exact tick_of_settle_waiting (by rw [hwaiting]; rfl) _ _ _
  · exact tick_of_settle_waitMark (by rw [hmark]; rfl) _ _ _
  · rw [rxdReturnsToMark_mem_rxDue, hmark]
    exact and_iff_right rfl
  · have hsettle := settle_of_over (x := x) hover
    rw [← hphase] at hsettle
    split_ifs at hsettle ⊢
    · exact tick_of_settle_waiting hsettle _ _ _
    · exact tick_of_settle_waitMark hsettle _ _ _
  · rw [rxdReturnsToMark_mem_rxDue, hphase, settle_of_over hover]
    cases x.getLsbD 11 <;> simp
  · change u.rx.phase.tick B prev now = _
    rw [hphase, tick_of_within hwithin]
  · have hgoes := tick_within_cases (x := x) hwithin (u.divider + 1) prev now
    rw [receiveCharacter_mem_rxDue, recognised_eq_some_iff]
    change (∃ b', (u.rxTick prev now).rx.phase = _) ↔ e + 1 = 11 * b + b / 2 ∧ (u.rxTick prev now).rx.phase = _
    rw [phase_rxTick, hphase]
    rcases hgoes with hgoes | ⟨z, hgoes⟩
    · simp [hgoes]
    · rw [hgoes]
      simp
  · obtain ⟨v, -, hline⟩ := recognisedOver_character n hdivider hwaiting hstart []
    rw [List.append_nil] at hline
    exact hline
  · rw [recognisedOver_space n hdivider hwaiting (by omega), if_pos (by omega)]
  · rw [recognisedOver_space n hdivider hwaiting hlow, if_neg (by omega)]
  · rw [recognisedOver_measured _ ⟨by rw [hmark]; rfl, hspace⟩ (by omega), if_pos (by omega)]
  · rw [recognisedOver_measured _ ⟨by rw [hmark]; rfl, hspace⟩ (by omega), if_neg (by omega)]

end Sys2Proof.Machine
end

section
/-! The releases of one event, one after another (R15-R18), and the completion records that follow them. -/

namespace Sys2Proof.Machine
open Sys2Proof.Safety

/-! ## Everything but links, descriptors, free lists and completions -/

/-- `t` with the links, the descriptors, the free lists, the armed condition, the completion queue and the global events of
`s`. -/
def poolAsIn (s t : State) : State :=
  { t with links := s.links, descs := s.descs, freeDescs := s.freeDescs, freeBlocks := s.freeBlocks, armed := s.armed,
           completion := s.completion, globalEvents := s.globalEvents }

/-- From `s` to `t` nothing else has changed. -/
def PoolFrame (s t : State) : Prop := poolAsIn s t = s

theorem PoolFrame.trans {s t u : State} (hst : PoolFrame s t) (htu : PoolFrame t u) : PoolFrame s u := by
  have hthrough : poolAsIn s u = poolAsIn s (poolAsIn t u) := rfl
  unfold PoolFrame at *
  rw [hthrough, htu, hst]

theorem PoolFrame.watermark {s t : State} (h : PoolFrame s t) : t.watermark = s.watermark := by
  have hsame : poolAsIn s t = s := h
  calc t.watermark = (poolAsIn s t).watermark := rfl
    _ = s.watermark := by rw [hsame]

theorem poolFrame_modLink (n : LinkId) (f : Link → Link) (s : State) : PoolFrame s (s.modLink n f) := rfl

theorem poolFrame_rearm (s : State) : PoolFrame s s.rearm := by
  unfold State.rearm
  split <;> rfl

theorem poolFrame_modDesc (d : DescId) (f : Descriptor → Descriptor) (s : State) : PoolFrame s (s.modDesc d f) := by
  unfold State.modDesc
  split <;> rfl

theorem poolFrame_appendCompletion (d : DescId) (s : State) : PoolFrame s (s.appendCompletion d) := by
  unfold State.appendCompletion
  split <;> rfl

/-- Steps that keep the frame keep it one after another. -/
theorem poolFrame_foldl {f : State → DescId → State} (hf : ∀ s d, PoolFrame s (f s d)) (ds : List DescId) :
    ∀ s, PoolFrame s (ds.foldl f s) := by
  induction ds with
  | nil => exact fun s => rfl
  | cons d ds ih => exact fun s => (hf s d).trans (ih (f s d))

/-! ## One release (R15-R18) -/

/-- A release in a session end or a completion: of the descriptor with its blocks, or of its blocks alone (R15, R16). -/
def State.releaseAs (full : Bool) (d : DescId) (s : State) : State :=
  if full then s.releaseToFree d else s.releaseBlocks d

/-- What a release leaves of a descriptor. -/
def releasedDescriptor (full : Bool) (r : Descriptor) : Descriptor := if full then {} else { r with blocks := [] }

theorem blocks_releasedDescriptor (full : Bool) (r : Descriptor) : (releasedDescriptor full r).blocks = [] := by
  cases full <;> rfl

/-- The pool after a release, before the watermark and the links look at it. -/
def State.pooled (full : Bool) (d : DescId) (s : State) : State :=
  { s with
    freeBlocks := s.freeBlocks ++ (s.desc d).blocks
    freeDescs := if full then s.freeDescs ++ [d] else s.freeDescs }.setDesc d (releasedDescriptor full (s.desc d))

section
variable {s : State} {d : DescId} (full : Bool)

theorem releaseAs_eq (h : (s.desc d).state ≠ .free) : s.releaseAs full d = (s.pooled full d).rearm.reevaluate := by
  cases full
  · exact releaseBlocks_eq h
  · exact if_neg h

theorem desc_releaseAs (h : (s.desc d).state ≠ .free) (x : DescId) :
    (s.releaseAs full d).desc x = if x = d then releasedDescriptor full (s.desc d) else s.desc x := by
  rw [releaseAs_eq full h, State.desc_reevaluate, State.desc_rearm, State.pooled, State.desc_setDesc]
  rfl

theorem freeBlocks_releaseAs (h : (s.desc d).state ≠ .free) :
    (s.releaseAs full d).freeBlocks = s.freeBlocks ++ (s.desc d).blocks := by
  rw [releaseAs_eq full h, State.freeBlocks_reevaluate, State.freeBlocks_rearm]
  rfl

theorem freeDescs_releaseAs (h : (s.desc d).state ≠ .free) :
    (s.releaseAs full d).freeDescs = s.freeDescs ++ [d].filter fun _ => full := by
  rw [releaseAs_eq full h, State.freeDescs_reevaluate, State.freeDescs_rearm]
  cases full
  · exact (List.append_nil _).symm
  · rfl

theorem link_releaseAs (h : (s.desc d).state ≠ .free) (m : LinkId) :
    (s.releaseAs full d).link m = if (s.releaseAs full d).updateDue m then (s.link m).makeReceipt else s.link m := by
  rw [releaseAs_eq full h, State.link_reevaluate, updateDue_reevaluate, State.link_rearm]
  rfl

theorem poolFrame_releaseAs (d : DescId) (s : State) : PoolFrame s (s.releaseAs full d) := by
  by_cases h : (s.desc d).state = .free
  · unfold State.releaseAs State.releaseToFree State.releaseBlocks
    rw [if_pos h, if_pos h]
    split <;> rfl
  · rw [releaseAs_eq full h]
    have hpooled : PoolFrame s (s.pooled full d) := rfl
    have hlinks : PoolFrame (s.pooled full d).rearm (s.pooled full d).rearm.reevaluate := rfl
    exact (hpooled.trans (poolFrame_rearm _)).trans hlinks

theorem completion_releaseAs (d : DescId) (s : State) : (s.releaseAs full d).completion = s.completion := by
  cases full
  · exact State.completion_releaseBlocks d s
  · exact State.completion_releaseToFree d s

theorem globalEvents_releaseAs (d : DescId) (s : State) : (s.releaseAs full d).globalEvents = s.globalEvents := by
  cases full
  · exact State.globalEvents_releaseBlocks d s
  · exact State.globalEvents_releaseToFree d s

/-- A release leaves the condition armed exactly at or above the watermark, where it was so (R18). -/
theorem watermarkOk_releaseAs (h : WatermarkOk s) (hd : (s.desc d).state ≠ .free) : WatermarkOk (s.releaseAs full d) := by
  have harmed : (s.releaseAs full d).armed =
      (s.armed || decide (s.watermark ≤ (s.releaseAs full d).freeBlocks.length)) := by
    rw [releaseAs_eq full hd, State.armed_reevaluate, armed_rearm, State.freeBlocks_reevaluate, State.freeBlocks_rearm]
    rfl
  unfold WatermarkOk at *
  rw [harmed, (poolFrame_releaseAs full d s).watermark, h, freeBlocks_releaseAs full hd, List.length_append, Bool.eq_iff_iff]
  simp only [Bool.or_eq_true, decide_eq_true_eq]
  omega

end

/-! ## A release takes no window update away (R10, R12, R17, R152) -/

theorem sum_finRange_update (g : DescId → Nat) (d : DescId) (a : Nat) :
    ((List.finRange 64).map fun x => if x = d then a else g x).sum + g d = ((List.finRange 64).map g).sum + a := by
  have hold := Finset.add_sum_erase Finset.univ g (Finset.mem_univ d)
  have hnew := Finset.add_sum_erase Finset.univ (fun x => if x = d then a else g x) (Finset.mem_univ d)
  have hrest : ∑ x ∈ Finset.univ.erase d, (if x = d then a else g x) = ∑ x ∈ Finset.univ.erase d, g x :=
    Finset.sum_congr rfl fun x hx => if_neg (Finset.ne_of_mem_erase hx)
  rw [hrest, if_pos rfl] at hnew
  rw [← Fin.sum_univ_def, ← Fin.sum_univ_def, ← hnew, ← hold]
  rw [Nat.add_comm a, Nat.add_right_comm, Nat.add_comm _ (g d)]

/-- A release takes a descriptor's blocks from its link's use. -/
theorem used_releaseAs {s : State} {d : DescId} (full : Bool) (h : (s.desc d).state ≠ .free) (n : LinkId) :
    (s.releaseAs full d).used n + (s.desc d).usedBlocks n = s.used n := by
  have hnow : ∀ x, ((s.releaseAs full d).desc x).usedBlocks n = if x = d then 0 else (s.desc x).usedBlocks n := by
    intro x
    rw [desc_releaseAs full h]
    split
    · exact usedBlocks_of_no_blocks (blocks_releasedDescriptor full _) n
    · rfl
  simp only [used_eq_sum_usedBlocks, hnow]
  exact (sum_finRange_update (fun x => (s.desc x).usedBlocks n) d 0).trans (Nat.add_zero _)

theorem guarantee_releaseAs {s : State} {d : DescId} (full : Bool) (h : (s.desc d).state ≠ .free) (n : LinkId) :
    ((s.releaseAs full d).link n).guarantee = (s.link n).guarantee := by
  rw [link_releaseAs full h]
  split <;> rfl

/-- A descriptor's blocks count for one link at most. -/
theorem sum_usedBlocks_le (r : Descriptor) (l : List LinkId) (h : l.Nodup) :
    (l.map fun m => r.usedBlocks m).sum ≤ r.blocks.length := by
  induction l with
  | nil => exact Nat.zero_le _
  | cons m l ih =>
    rw [List.nodup_cons] at h
    obtain ⟨hm, hl⟩ := h
    rw [List.map_cons, List.sum_cons]
    by_cases hlink : r.link = some m
    · have hothers : (l.map fun k => r.usedBlocks k).sum = 0 := by
        refine List.sum_eq_zero fun x hx => ?_
        obtain ⟨k, hk, rfl⟩ := List.mem_map.mp hx
        refine if_neg fun hused => hm ?_
        obtain ⟨hother, -⟩ := hused
        rw [Option.some.inj (hlink.symm.trans hother)]
        exact hk
      have hown : r.usedBlocks m ≤ r.blocks.length := by
        unfold Descriptor.usedBlocks
        split
        · exact le_refl _
        · exact Nat.zero_le _
      omega
    · have hown : r.usedBlocks m = 0 := if_neg fun hused => hlink hused.1
      rw [hown, Nat.zero_add]
      exact ih hl

/-- Reserves rise by no more than the blocks that are freed (R10, R12). -/
theorem othersReserve_releaseAs_le {s : State} {d : DescId} (full : Bool) (h : (s.desc d).state ≠ .free) (n : LinkId) :
    (s.releaseAs full d).othersReserve n ≤ s.othersReserve n + (s.desc d).blocks.length := by
  have hown := sum_usedBlocks_le (s.desc d) ((List.finRange 4).filter fun m => m ≠ n) ((List.nodup_finRange 4).filter _)
  have heach : ∀ m, ((s.releaseAs full d).link m).guarantee - (s.releaseAs full d).used m ≤
      ((s.link m).guarantee - s.used m) + (s.desc d).usedBlocks m := by
    intro m
    have hused := used_releaseAs full h m
    rw [guarantee_releaseAs full h]
    omega
  rw [othersReserve_eq_sum, othersReserve_eq_sum]
  calc _ ≤ (((List.finRange 4).filter fun m => m ≠ n).map fun m =>
          ((s.link m).guarantee - s.used m) + (s.desc d).usedBlocks m).sum := List.sum_le_sum fun m _ => heach m
    _ = _ := List.sum_map_add
    _ ≤ _ := Nat.add_le_add_left hown _

theorem credit_le_releaseAs {s : State} {d : DescId} (full : Bool) (h : (s.desc d).state ≠ .free) (n : LinkId) :
    s.credit n ≤ (s.releaseAs full d).credit n := by
  have hheld : ((s.releaseAs full d).le n).heldCount = (s.le n).heldCount := by
    unfold State.le
    rw [link_releaseAs full h]
    split <;> rfl
  have hblocks : (s.releaseAs full d).freeBlocks.length = s.freeBlocks.length + (s.desc d).blocks.length := by
    rw [freeBlocks_releaseAs full h, List.length_append]
  have hdescs : s.freeDescs.length ≤ (s.releaseAs full d).freeDescs.length := by
    rw [freeDescs_releaseAs full h, List.length_append]
    exact Nat.le_add_right _ _
  have hreserve := othersReserve_releaseAs_le full h n
  have hgrantable : s.grantableBlocks n ≤ (s.releaseAs full d).grantableBlocks n := by
    unfold State.grantableBlocks
    omega
  unfold State.credit State.grantableDescs
  omega

/-- A window update that is due stays due over a release. -/
theorem updateDue_releaseAs {s : State} {d : DescId} (full : Bool) (h : (s.desc d).state ≠ .free) {n : LinkId}
    (hdue : s.updateDue n = true) : (s.releaseAs full d).updateDue n = true := by
  have hcredit := credit_le_releaseAs full h n
  have hengine : ((s.releaseAs full d).le n).session = (s.le n).session ∧
      ((s.releaseAs full d).le n).advertised = (s.le n).advertised := by
    unfold State.le
    rw [link_releaseAs full h]
    split <;> exact ⟨rfl, rfl⟩
  obtain ⟨hsession, hadvertised⟩ := hengine
  rw [updateDue_iff] at hdue ⊢
  obtain ⟨hlive, hzero, hpositive⟩ := hdue
  exact ⟨hsession ▸ hlive, hadvertised ▸ hzero, hpositive.trans_le hcredit⟩

/-! ## Several releases in one event (R15) -/

/-- The releases of one event. -/
def State.releaseList (full : DescId → Bool) (ds : List DescId) (s : State) : State :=
  ds.foldl (fun s d => s.releaseAs (full d) d) s

section
variable {full : DescId → Bool}

theorem releaseList_cons (d : DescId) (ds : List DescId) (s : State) :
    s.releaseList full (d :: ds) = (s.releaseAs (full d) d).releaseList full ds := rfl

/-- The descriptors still to be released are not touched by the first release. -/
theorem held_after_releaseAs {d : DescId} {ds : List DescId} {s : State} (hnodup : (d :: ds).Nodup)
    (hheld : ∀ x ∈ d :: ds, (s.desc x).state ≠ .free) :
    ∀ x ∈ ds, (s.releaseAs (full d) d).desc x = s.desc x ∧ ((s.releaseAs (full d) d).desc x).state ≠ .free := by
  intro x hx
  rw [List.nodup_cons] at hnodup
  have hne : x ≠ d := fun h => hnodup.1 (h ▸ hx)
  have hkept : (s.releaseAs (full d) d).desc x = s.desc x := by
    rw [desc_releaseAs _ (hheld d List.mem_cons_self), if_neg hne]
  exact ⟨hkept, hkept ▸ hheld x (List.mem_cons_of_mem _ hx)⟩

theorem desc_releaseList (ds : List DescId) : ∀ {s : State}, ds.Nodup → (∀ x ∈ ds, (s.desc x).state ≠ .free) →
    ∀ x, (s.releaseList full ds).desc x = if x ∈ ds then releasedDescriptor (full x) (s.desc x) else s.desc x := by
  induction ds with
  | nil => intro s _ _ x; rfl
  | cons d ds ih =>
    intro s hnodup hheld x
    have hafter := held_after_releaseAs (full := full) hnodup hheld
    rw [List.nodup_cons] at hnodup
    obtain ⟨hfirst, hrest⟩ := hnodup
    rw [releaseList_cons, ih hrest (fun y hy => (hafter y hy).2), desc_releaseAs _ (hheld d List.mem_cons_self)]
    by_cases hx : x = d
    · subst hx
      simp [hfirst]
    · simp [hx]

theorem freeBlocks_releaseList (ds : List DescId) : ∀ {s : State}, ds.Nodup → (∀ x ∈ ds, (s.desc x).state ≠ .free) →
    (s.releaseList full ds).freeBlocks = s.freeBlocks ++ ds.flatMap fun d => (s.desc d).blocks := by
  induction ds with
  | nil => intro s _ _; exact (List.append_nil _).symm
  | cons d ds ih =>
    intro s hnodup hheld
    have hafter := held_after_releaseAs (full := full) hnodup hheld
    have hblocks : ds.flatMap (fun x => ((s.releaseAs (full d) d).desc x).blocks) = ds.flatMap fun x => (s.desc x).blocks :=
      List.flatMap_congr fun x hx => congrArg Descriptor.blocks (hafter x hx).1
    rw [releaseList_cons, ih (List.nodup_cons.mp hnodup).2 (fun y hy => (hafter y hy).2), hblocks,
      freeBlocks_releaseAs _ (hheld d List.mem_cons_self), List.flatMap_cons, List.append_assoc]

theorem freeDescs_releaseList (ds : List DescId) : ∀ {s : State}, ds.Nodup → (∀ x ∈ ds, (s.desc x).state ≠ .free) →
    (s.releaseList full ds).freeDescs = s.freeDescs ++ ds.filter full := by
  induction ds with
  | nil => intro s _ _; exact (List.append_nil _).symm
  | cons d ds ih =>
    intro s hnodup hheld
    have hafter := held_after_releaseAs (full := full) hnodup hheld
    rw [releaseList_cons, ih (List.nodup_cons.mp hnodup).2 (fun y hy => (hafter y hy).2),
      freeDescs_releaseAs _ (hheld d List.mem_cons_self), List.append_assoc]
    cases hd : full d <;> simp [hd]

theorem watermarkOk_releaseList (ds : List DescId) : ∀ {s : State}, ds.Nodup → (∀ x ∈ ds, (s.desc x).state ≠ .free) →
    WatermarkOk s → WatermarkOk (s.releaseList full ds) := by
  induction ds with
  | nil => intro s _ _ h; exact h
  | cons d ds ih =>
    intro s hnodup hheld h
    have hafter := held_after_releaseAs (full := full) hnodup hheld
    exact ih (List.nodup_cons.mp hnodup).2 (fun y hy => (hafter y hy).2)
      (watermarkOk_releaseAs _ h (hheld d List.mem_cons_self))

theorem poolFrame_releaseList (ds : List DescId) (s : State) : PoolFrame s (s.releaseList full ds) :=
  poolFrame_foldl (fun s d => poolFrame_releaseAs (full d) d s) ds s

theorem completion_releaseList (ds : List DescId) : ∀ s : State, (s.releaseList full ds).completion = s.completion := by
  induction ds with
  | nil => exact fun s => rfl
  | cons d ds ih => exact fun s => (ih _).trans (completion_releaseAs _ d s)

theorem globalEvents_releaseList (ds : List DescId) : ∀ s : State,
    (s.releaseList full ds).globalEvents = s.globalEvents := by
  induction ds with
  | nil => exact fun s => rfl
  | cons d ds ih => exact fun s => (ih _).trans (globalEvents_releaseAs _ d s)

theorem updateDue_releaseList (ds : List DescId) : ∀ {s : State} {n : LinkId}, ds.Nodup →
    (∀ x ∈ ds, (s.desc x).state ≠ .free) → s.updateDue n = true → (s.releaseList full ds).updateDue n = true := by
  induction ds with
  | nil => exact fun _ _ hdue => hdue
  | cons d ds ih =>
    intro s n hnodup hheld hdue
    have hafter := held_after_releaseAs (full := full) hnodup hheld
    exact ih (List.nodup_cons.mp hnodup).2 (fun y hy => (hafter y hy).2)
      (updateDue_releaseAs _ (hheld d List.mem_cons_self) hdue)

/-- The last of the releases decides which links have a window update due (R17). -/
theorem link_releaseList (ds : List DescId) : ∀ {s : State}, ds.Nodup → (∀ x ∈ ds, (s.desc x).state ≠ .free) →
    ∀ m, (s.releaseList full ds).link m =
      if ds ≠ [] ∧ (s.releaseList full ds).updateDue m = true then (s.link m).makeReceipt else s.link m := by
  induction ds with
  | nil => intro s _ _ m; rfl
  | cons d ds ih =>
    intro s hnodup hheld m
    have hafter := held_after_releaseAs (full := full) hnodup hheld
    have hrest := (List.nodup_cons.mp hnodup).2
    have hkeeps : (s.releaseAs (full d) d).updateDue m = true → (s.releaseList full (d :: ds)).updateDue m = true :=
      updateDue_releaseList ds hrest fun y hy => (hafter y hy).2
    rw [releaseList_cons] at hkeeps ⊢
    rw [ih hrest (fun y hy => (hafter y hy).2) m, link_releaseAs _ (hheld d List.mem_cons_self)]
    by_cases hfirst : (s.releaseAs (full d) d).updateDue m = true
    · simp [hfirst, hkeeps hfirst, Link.makeReceipt]
    · cases ds with
      | nil => simp [State.releaseList]
      | cons e ds => simp [hfirst]

end

end Sys2Proof.Machine
end

section
/-! The session end (R80, R82): what it leaves of each descriptor, of the pool, of the queues and of the links. -/

namespace Sys2Proof.Machine
open Sys2Proof.Safety

/-! ## Descriptors marked before the releases -/

section
variable {f : Descriptor → Descriptor}

theorem desc_foldl_modDesc (ds : List DescId) : ∀ {s : State}, ds.Nodup → ∀ x,
    (ds.foldl (fun s d => s.modDesc d f) s).desc x =
      if x ∈ ds ∧ (s.desc x).state ≠ .free then f (s.desc x) else s.desc x := by
  induction ds with
  | nil => intro s _ x; simp
  | cons d ds ih =>
    intro s hnodup x
    rw [List.nodup_cons] at hnodup
    obtain ⟨hfirst, hrest⟩ := hnodup
    rw [List.foldl_cons, ih hrest x]
    by_cases hx : x = d
    · subst hx
      simp [hfirst, State.desc_modDesc]
    · simp [hx, State.desc_modDesc]

/-- Marks change descriptors alone. -/
theorem foldl_modDesc_frame (ds : List DescId) : ∀ s : State,
    ds.foldl (fun s d => s.modDesc d f) s = { s with descs := (ds.foldl (fun s d => s.modDesc d f) s).descs } := by
  induction ds with
  | nil => exact fun s => rfl
  | cons d ds ih =>
    intro s
    have hfirst : s.modDesc d f = { s with descs := (s.modDesc d f).descs } := by
      unfold State.modDesc
      split <;> rfl
    rw [List.foldl_cons, ih (s.modDesc d f)]
    rw [hfirst]

end

/-! ## Completion records, one after another (R16) -/

/-- The completion records of one event. -/
def State.recordList (ds : List DescId) (s : State) : State := ds.foldl (fun s d => s.appendCompletion d) s

theorem held_after_appendCompletion {d : DescId} {ds : List DescId} {s : State}
    (hheld : ∀ x ∈ d :: ds, (s.desc x).state ≠ .free) : ∀ x ∈ ds, ((s.appendCompletion d).desc x).state ≠ .free := by
  intro x hx
  rw [desc_appendCompletion (hheld d List.mem_cons_self)]
  split
  · exact nofun
  · exact hheld x (List.mem_cons_of_mem _ hx)

theorem desc_recordList (ds : List DescId) : ∀ {s : State}, ds.Nodup → (∀ x ∈ ds, (s.desc x).state ≠ .free) →
    ∀ x, (s.recordList ds).desc x =
      if x ∈ ds then { s.desc x with state := .completed, onLine := some false } else s.desc x := by
  induction ds with
  | nil => intro s _ _ x; rfl
  | cons d ds ih =>
    intro s hnodup hheld x
    rw [List.nodup_cons] at hnodup
    obtain ⟨hfirst, hrest⟩ := hnodup
    have hd := hheld d List.mem_cons_self
    have hkept := held_after_appendCompletion hheld
    change ((s.appendCompletion d).recordList ds).desc x = _
    rw [ih hrest hkept, desc_appendCompletion hd]
    by_cases hx : x = d
    · subst hx
      simp [hfirst]
    · simp [hx]

theorem completion_recordList (ds : List DescId) : ∀ {s : State}, ds.Nodup → (∀ x ∈ ds, (s.desc x).state ≠ .free) →
    (s.recordList ds).completion = s.completion ++ ds ∧
      (s.recordList ds).globalEvents = if ds = [] then s.globalEvents else s.globalEvents ||| 0x02 := by
  induction ds with
  | nil => intro s _ _; exact ⟨(List.append_nil _).symm, rfl⟩
  | cons d ds ih =>
    intro s hnodup hheld
    rw [List.nodup_cons] at hnodup
    obtain ⟨hfirst, hrest⟩ := hnodup
    have hd := hheld d List.mem_cons_self
    have hkept := held_after_appendCompletion hheld
    obtain ⟨hqueue, hevents⟩ := ih hrest hkept
    have hqueued : (s.appendCompletion d).completion = s.completion ++ [d] := by rw [appendCompletion_eq hd]; rfl
    have hset : (s.appendCompletion d).globalEvents = s.globalEvents ||| 0x02 := by rw [appendCompletion_eq hd]; rfl
    change ((s.appendCompletion d).recordList ds).completion = _ ∧ ((s.appendCompletion d).recordList ds).globalEvents = _
    rw [hqueue, hevents, hqueued, hset]
    refine ⟨by simp, ?_⟩
    split
    · simp
    · simp [BitVec.or_assoc]

theorem poolFrame_recordList (ds : List DescId) (s : State) : PoolFrame s (s.recordList ds) :=
  poolFrame_foldl (fun s d => poolFrame_appendCompletion d s) ds s

/-- Completion records leave the links and the pool alone. -/
theorem recordList_pool (ds : List DescId) : ∀ s : State,
    (s.recordList ds).links = s.links ∧ (s.recordList ds).freeDescs = s.freeDescs ∧
      (s.recordList ds).freeBlocks = s.freeBlocks ∧ (s.recordList ds).armed = s.armed := by
  induction ds with
  | nil => exact fun s => ⟨rfl, rfl, rfl, rfl⟩
  | cons d ds ih =>
    intro s
    obtain ⟨hlinks, hdescs, hblocks, harmed⟩ := ih (s.appendCompletion d)
    exact ⟨hlinks.trans (State.links_appendCompletion d s), hdescs.trans (State.freeDescs_appendCompletion d s),
      hblocks.trans (State.freeBlocks_appendCompletion d s), harmed.trans (State.armed_appendCompletion d s)⟩

theorem used_recordList (ds : List DescId) {s : State} (hnodup : ds.Nodup) (hheld : ∀ x ∈ ds, (s.desc x).state ≠ .free)
    (hblocks : ∀ x ∈ ds, (s.desc x).blocks = []) (n : LinkId) : (s.recordList ds).used n = s.used n := by
  refine used_congr fun x => ?_
  rw [desc_recordList ds hnodup hheld]
  split
  · rename_i hx
    rw [usedBlocks_of_completed rfl, usedBlocks_of_no_blocks (hblocks x hx)]
  · rfl

/-! ## Which descriptors a session end acts on (R80) -/

/-- What a session end of link `n` does with a descriptor. -/
inductive EndRole where
  | completes
  | detaches
  | frees
  | stays
  deriving DecidableEq

def endRole (s : State) (n : LinkId) (d : DescId) : EndRole :=
  if (s.desc d).link = some n then
    match (s.desc d).state with
    | .submitted => .completes
    | .retained => if s.isOnLine d = true then .detaches else .completes
    | .held | .assembling => .frees
    | _ => .stays
  else .stays

/-- The outbound descriptors that complete or are freed: the retention queue but for the copy on line, then the submit queue. -/
def State.leavingAtEnd (s : State) (n : LinkId) : List DescId :=
  (s.le n).retention.filter (fun d => !s.isOnLine d) ++ (s.le n).submit

/-- The retained descriptor that is on the line. -/
def State.onLineAtEnd (s : State) (n : LinkId) : List DescId := (s.le n).retention.filter s.isOnLine

/-- The inbound descriptors of the window and of the parcel being stored. -/
def State.freedAtEnd (s : State) (n : LinkId) : List DescId :=
  (s.le n).window.filterMap id ++ (s.lu n).record.descriptor.toList

section
variable {s : State} {n : LinkId}

theorem mem_leavingAtEnd (h : LinkOwns s n) (d : DescId) : d ∈ s.leavingAtEnd n ↔ endRole s n d = .completes := by
  obtain ⟨-, -, -, howns⟩ := h
  obtain ⟨hsubmit, hretention, -, -, -⟩ := howns d
  unfold State.leavingAtEnd endRole
  rw [List.mem_append, List.mem_filter, hsubmit, hretention]
  by_cases hlink : (s.desc d).link = some n
  · rw [if_pos hlink]
    cases hstate : (s.desc d).state <;> simp [hlink]
  · simp [hlink]

theorem mem_onLineAtEnd (h : LinkOwns s n) (d : DescId) : d ∈ s.onLineAtEnd n ↔ endRole s n d = .detaches := by
  obtain ⟨-, -, -, howns⟩ := h
  obtain ⟨-, hretention, -, -, -⟩ := howns d
  unfold State.onLineAtEnd endRole
  rw [List.mem_filter, hretention]
  by_cases hlink : (s.desc d).link = some n
  · rw [if_pos hlink]
    cases hstate : (s.desc d).state <;> simp [hlink]
  · simp [hlink]

theorem mem_freedAtEnd (h : LinkOwns s n) (d : DescId) : d ∈ s.freedAtEnd n ↔ endRole s n d = .frees := by
  obtain ⟨-, -, -, howns⟩ := h
  obtain ⟨-, -, hwindow, hrecord, -⟩ := howns d
  have hheld : d ∈ (s.le n).window.filterMap id ↔ some d ∈ (s.le n).window := by simp
  unfold State.freedAtEnd endRole
  rw [List.mem_append, hheld, Option.mem_toList, hwindow, hrecord]
  by_cases hlink : (s.desc d).link = some n
  · rw [if_pos hlink]
    cases hstate : (s.desc d).state <;> simp [hlink]
    split_ifs <;> simp
  · simp [hlink]

theorem nodup_leavingAtEnd (h : LinkOwns s n) : (s.leavingAtEnd n).Nodup := by
  obtain ⟨hsubmit, hretention, -, howns⟩ := h
  refine List.Nodup.append (hretention.filter _) hsubmit fun d hkept hqueued => ?_
  obtain ⟨hsubmitted, hretained, -, -, -⟩ := howns d
  obtain ⟨hstate, -⟩ := hsubmitted.mp hqueued
  obtain ⟨hstate', -⟩ := hretained.mp (List.mem_of_mem_filter hkept)
  rw [hstate] at hstate'
  exact nomatch hstate'

theorem nodup_onLineAtEnd (h : LinkOwns s n) : (s.onLineAtEnd n).Nodup := by
  obtain ⟨-, hretention, -, -⟩ := h
  exact hretention.filter _

/-- The cleanup acts on no descriptor that is FREE or COMPLETED. -/
theorem state_of_endRole {d : DescId} (h : endRole s n d ≠ .stays) :
    (s.desc d).state ≠ .free ∧ (s.desc d).state ≠ .completed := by
  unfold endRole at h
  split at h
  · split at h <;> simp_all
  · exact absurd rfl h

theorem afterSessionEnd_eq (s : State) (n : LinkId) (d : DescId) :
    AfterSessionEnd s n d = match endRole s n d with
      | .completes => if (s.le n).latched.reporting = true then
          { s.desc d with state := .completed, outcome := some .abandoned, blocks := [], onLine := some false }
        else {}
      | .detaches => { s.desc d with state := .detached, outcome := some .abandoned }
      | .frees => {}
      | .stays => s.desc d := by
  unfold AfterSessionEnd endRole
  by_cases hlink : (s.desc d).link = some n
  · simp only [hlink, if_true]
    cases hstate : (s.desc d).state <;> simp
    split_ifs <;> rfl
  · simp [hlink]

/-! ## The steps of a session end (R80) -/

/-- Link `n` CLOSED, its descriptors not yet dealt with. -/
def linkEnded (cause : EndCause) (keep : Keep) (l : Link) : Link :=
  { l with le := l.le.sessionEnd cause keep, lu := l.lu.sessionEnd }

/-- The descriptors of the ending session marked with their outcomes. -/
def State.markedAtEnd (n : LinkId) (cause : EndCause) (keep : Keep) (s : State) : State :=
  (s.onLineAtEnd n).foldl (fun s d => s.detach .abandoned d)
    ((s.leavingAtEnd n).foldl (fun s d => s.setOutcome .abandoned d)
      ((s.modLE n (LinkEngine.sessionEnd cause keep)).modLU n LineUnit.sessionEnd))

/-- The descriptors released by the end of a session, in ascending order. -/
def State.releasesAtEnd (s : State) (n : LinkId) : List DescId := ascending (s.leavingAtEnd n ++ s.freedAtEnd n)

/-- A descriptor is released to FREE, not its blocks alone. -/
def State.fullAtEnd (s : State) (n : LinkId) (d : DescId) : Bool :=
  (s.freedAtEnd n).contains d || !(s.le n).latched.reporting

theorem endSession_eq (s : State) (n : LinkId) (cause : EndCause) (keep : Keep) :
    s.endSession n cause keep =
      (((s.markedAtEnd n cause keep).releaseList (s.fullAtEnd n) (s.releasesAtEnd n)).recordList
        (abandonedRecords s n)).setEvent n cause.event := by
  have hstep : (fun (t : State) (d : DescId) => if (s.freedAtEnd n).contains d then t.releaseToFree d
      else t.settle (s.le n).latched.reporting d) = fun t d => t.releaseAs (s.fullAtEnd n d) d := by
    funext t d
    unfold State.fullAtEnd State.releaseAs State.settle
    cases (s.freedAtEnd n).contains d <;> cases (s.le n).latched.reporting <;> rfl
  have hsteps : s.endSession n cause keep =
      ((if (s.le n).latched.reporting = true then
        (s.leavingAtEnd n).foldl (fun t d => t.appendCompletion d)
          ((s.releasesAtEnd n).foldl (fun (t : State) d => if (s.freedAtEnd n).contains d then t.releaseToFree d
            else t.settle (s.le n).latched.reporting d) (s.markedAtEnd n cause keep))
      else (s.releasesAtEnd n).foldl (fun (t : State) d => if (s.freedAtEnd n).contains d then t.releaseToFree d
            else t.settle (s.le n).latched.reporting d) (s.markedAtEnd n cause keep))).setEvent n cause.event := rfl
  rw [hsteps, hstep]
  unfold abandonedRecords State.recordList State.releaseList
  split <;> rfl

theorem mem_releasesAtEnd (h : LinkOwns s n) (d : DescId) :
    d ∈ s.releasesAtEnd n ↔ endRole s n d = .completes ∨ endRole s n d = .frees := by
  rw [← mem_leavingAtEnd h, ← mem_freedAtEnd h]
  simp [State.releasesAtEnd, ascending]

theorem nodup_releasesAtEnd (s : State) (n : LinkId) : (s.releasesAtEnd n).Nodup := (List.nodup_finRange 64).filter _

theorem fullAtEnd_iff (h : LinkOwns s n) (d : DescId) :
    s.fullAtEnd n d = true ↔ endRole s n d = .frees ∨ (s.le n).latched.reporting = false := by
  rw [← mem_freedAtEnd h]
  simp [State.fullAtEnd]

theorem mem_abandonedRecords (h : LinkOwns s n) (d : DescId) :
    d ∈ abandonedRecords s n ↔ endRole s n d = .completes ∧ (s.le n).latched.reporting = true := by
  rw [← mem_leavingAtEnd h]
  unfold abandonedRecords State.leavingAtEnd
  split <;> simp_all

theorem nodup_abandonedRecords (h : LinkOwns s n) : (abandonedRecords s n).Nodup := by
  unfold abandonedRecords
  split
  · exact nodup_leavingAtEnd h
  · exact List.nodup_nil

section
variable (cause : EndCause) (keep : Keep)

theorem desc_markedAtEnd (h : LinkOwns s n) (d : DescId) :
    (s.markedAtEnd n cause keep).desc d = match endRole s n d with
      | .completes => { s.desc d with outcome := some .abandoned }
      | .detaches => { s.desc d with state := .detached, outcome := some .abandoned }
      | .frees | .stays => s.desc d := by
  have hstate : endRole s n d ≠ .stays → (s.desc d).state ≠ .free := fun hrole => (state_of_endRole hrole).1
  unfold State.markedAtEnd State.detach State.setOutcome
  rw [desc_foldl_modDesc _ (nodup_onLineAtEnd h), desc_foldl_modDesc _ (nodup_leavingAtEnd h)]
  simp only [mem_leavingAtEnd h, mem_onLineAtEnd h, State.desc_modLU, State.desc_modLE]
  cases hrole : endRole s n d <;> simp_all

/-- The marks change nothing but the link and the descriptors. -/
theorem markedAtEnd_frame (s : State) (n : LinkId) :
    s.markedAtEnd n cause keep =
      { s.modLink n (linkEnded cause keep) with descs := (s.markedAtEnd n cause keep).descs } := by
  unfold State.markedAtEnd State.detach State.setOutcome
  rw [foldl_modDesc_frame (s.onLineAtEnd n)]
  rw [foldl_modDesc_frame (s.leavingAtEnd n)]
  rw [show (s.modLE n (LinkEngine.sessionEnd cause keep)).modLU n LineUnit.sessionEnd =
    s.modLink n (linkEnded cause keep) from modLink_modLink n _ _ s]

end

end

end Sys2Proof.Machine
end

section
/-! The session end, assembled (R80, R82). -/

namespace Sys2Proof.Machine
open Sys2Proof.Safety

section
variable {s : State} {n : LinkId} (cause : EndCause) (keep : Keep)

theorem link_markedAtEnd (s : State) (n m : LinkId) :
    (s.markedAtEnd n cause keep).link m = if m = n then linkEnded cause keep (s.link n) else s.link m := by
  rw [markedAtEnd_frame]
  exact State.link_modLink n m _ s

theorem markedAtEnd_pool (s : State) (n : LinkId) :
    (s.markedAtEnd n cause keep).freeDescs = s.freeDescs ∧ (s.markedAtEnd n cause keep).freeBlocks = s.freeBlocks ∧
      (s.markedAtEnd n cause keep).completion = s.completion ∧
      (s.markedAtEnd n cause keep).globalEvents = s.globalEvents ∧
      (WatermarkOk s → WatermarkOk (s.markedAtEnd n cause keep)) ∧ PoolFrame s (s.markedAtEnd n cause keep) := by
  rw [markedAtEnd_frame]
  exact ⟨rfl, rfl, rfl, rfl, fun h => h, rfl⟩

/-! ## The releases -/

/-- The releases by the part that each descriptor plays. -/
theorem releasesAtEnd_eq (h : LinkOwns s n) :
    s.releasesAtEnd n = (List.finRange 64).filter fun d => decide (endRole s n d = .completes ∨ endRole s n d = .frees) := by
  refine List.filter_congr fun d _ => ?_
  rw [Bool.eq_iff_iff, decide_eq_true_iff, ← mem_leavingAtEnd h, ← mem_freedAtEnd h, List.contains_iff_mem, List.mem_append]

theorem held_markedAtEnd (h : LinkOwns s n) :
    ∀ d ∈ s.releasesAtEnd n, ((s.markedAtEnd n cause keep).desc d).state ≠ .free := by
  intro d hd
  rw [desc_markedAtEnd cause keep h]
  rw [mem_releasesAtEnd h] at hd
  have hheld : (s.desc d).state ≠ .free := (state_of_endRole (by rcases hd with hd | hd <;> rw [hd] <;> decide)).1
  rcases hd with hd | hd <;> rw [hd] <;> exact hheld

theorem blocks_markedAtEnd (h : LinkOwns s n) (d : DescId) :
    ((s.markedAtEnd n cause keep).desc d).blocks = (s.desc d).blocks := by
  rw [desc_markedAtEnd cause keep h]
  cases endRole s n d <;> rfl

/-- The part after the releases of a session end. -/
def State.afterReleases (n : LinkId) (cause : EndCause) (keep : Keep) (s : State) : State :=
  (s.markedAtEnd n cause keep).releaseList (s.fullAtEnd n) (s.releasesAtEnd n)

theorem desc_afterReleases (h : LinkOwns s n) (d : DescId) :
    (s.afterReleases n cause keep).desc d = match endRole s n d with
      | .completes => if (s.le n).latched.reporting = true then
          { s.desc d with outcome := some .abandoned, blocks := [] } else {}
      | .detaches => { s.desc d with state := .detached, outcome := some .abandoned }
      | .frees => {}
      | .stays => s.desc d := by
  have hfull := fullAtEnd_iff h d
  unfold State.afterReleases
  rw [desc_releaseList _ (nodup_releasesAtEnd s n) (held_markedAtEnd cause keep h), desc_markedAtEnd cause keep h]
  simp only [mem_releasesAtEnd h]
  cases hrole : endRole s n d with
  | completes =>
    rw [hrole] at hfull
    cases hreporting : (s.le n).latched.reporting with
    | true =>
      have hblocks : s.fullAtEnd n d = false := by rw [← Bool.not_eq_true, hfull, hreporting]; decide
      simp [hblocks, releasedDescriptor]
    | false => simp [hfull.mpr (.inr hreporting), releasedDescriptor]
  | frees => simp [hfull.mpr (.inl hrole), releasedDescriptor]
  | detaches => simp
  | stays => simp

/-! ## The records -/

theorem held_afterReleases (h : LinkOwns s n) :
    ∀ d ∈ abandonedRecords s n, ((s.afterReleases n cause keep).desc d).state ≠ .free ∧
      ((s.afterReleases n cause keep).desc d).blocks = [] := by
  intro d hd
  obtain ⟨hrole, hreporting⟩ := (mem_abandonedRecords h d).mp hd
  rw [desc_afterReleases cause keep h, hrole, hreporting]
  exact ⟨(state_of_endRole (by rw [hrole]; decide)).1, rfl⟩

theorem endSession_eq_recordList (s : State) (n : LinkId) :
    s.endSession n cause keep =
      ((s.afterReleases n cause keep).recordList (abandonedRecords s n)).setEvent n cause.event :=
  endSession_eq s n cause keep

theorem desc_endSession (h : LinkOwns s n) (d : DescId) :
    (s.endSession n cause keep).desc d = AfterSessionEnd s n d := by
  rw [endSession_eq_recordList, State.desc_setEvent, desc_recordList _ (nodup_abandonedRecords h)
    (fun x hx => (held_afterReleases cause keep h x hx).1), desc_afterReleases cause keep h, afterSessionEnd_eq]
  simp only [mem_abandonedRecords h]
  cases hrole : endRole s n d <;> cases hreporting : (s.le n).latched.reporting <;> simp

/-! ## The pool -/

theorem freeDescs_endSession (h : LinkOwns s n) :
    (s.endSession n cause keep).freeDescs = s.freeDescs ++ (List.finRange 64).filter fun d =>
      decide ((AfterSessionEnd s n d).state = .free) && decide ((s.desc d).state ≠ .free) := by
  obtain ⟨hdescs, -⟩ := markedAtEnd_pool cause keep s n
  obtain ⟨-, hkept, -⟩ := recordList_pool (abandonedRecords s n) (s.afterReleases n cause keep)
  rw [endSession_eq_recordList, State.freeDescs_setEvent, hkept, State.afterReleases,
    freeDescs_releaseList _ (nodup_releasesAtEnd s n) (held_markedAtEnd cause keep h), hdescs, releasesAtEnd_eq h,
    List.filter_filter]
  refine congrArg (s.freeDescs ++ ·) (List.filter_congr fun d _ => ?_)
  have hheld := state_of_endRole (s := s) (n := n) (d := d)
  rw [Bool.eq_iff_iff, Bool.and_eq_true, Bool.and_eq_true, fullAtEnd_iff h, afterSessionEnd_eq]
  cases hrole : endRole s n d <;> cases hreporting : (s.le n).latched.reporting <;> simp_all

/-- A list of lists over the entries that meet a test is one over all of them with `[]` where the test fails. -/
theorem flatMap_filter_eq_ite {α β : Type} (p : α → Bool) (f : α → List β) (l : List α) :
    (l.filter p).flatMap f = l.flatMap fun a => if p a = true then f a else [] := by
  induction l with
  | nil => rfl
  | cons a l ih => by_cases h : p a = true <;> simp [h, ih]

theorem freeBlocks_endSession (h : LinkOwns s n) :
    (s.endSession n cause keep).freeBlocks = s.freeBlocks ++ (List.finRange 64).flatMap fun d =>
      if (AfterSessionEnd s n d).blocks = [] then (s.desc d).blocks else [] := by
  obtain ⟨-, hblocks, -⟩ := markedAtEnd_pool cause keep s n
  obtain ⟨-, -, hkept, -⟩ := recordList_pool (abandonedRecords s n) (s.afterReleases n cause keep)
  rw [endSession_eq_recordList, State.freeBlocks_setEvent, hkept, State.afterReleases,
    freeBlocks_releaseList _ (nodup_releasesAtEnd s n) (held_markedAtEnd cause keep h), hblocks, releasesAtEnd_eq h,
    flatMap_filter_eq_ite]
  refine congrArg (s.freeBlocks ++ ·) (List.flatMap_congr fun d _ => ?_)
  rw [blocks_markedAtEnd cause keep h, afterSessionEnd_eq]
  cases hrole : endRole s n d <;> cases hreporting : (s.le n).latched.reporting <;> simp

theorem watermarkOk_endSession (h : LinkOwns s n) (hw : WatermarkOk s) : WatermarkOk (s.endSession n cause keep) := by
  obtain ⟨-, -, -, -, hmarked, -⟩ := markedAtEnd_pool cause keep s n
  obtain ⟨-, -, hblocks, harmed⟩ := recordList_pool (abandonedRecords s n) (s.afterReleases n cause keep)
  have hreleased : WatermarkOk (s.afterReleases n cause keep) :=
    watermarkOk_releaseList _ (nodup_releasesAtEnd s n) (held_markedAtEnd cause keep h) (hmarked hw)
  unfold WatermarkOk at hreleased ⊢
  rw [endSession_eq_recordList, State.armed_setEvent, State.watermark_setEvent, State.freeBlocks_setEvent, harmed, hblocks,
    (poolFrame_recordList _ _).watermark]
  exact hreleased

theorem completion_endSession (h : LinkOwns s n) :
    (s.endSession n cause keep).completion = s.completion ++ abandonedRecords s n ∧
      (s.endSession n cause keep).globalEvents =
        if abandonedRecords s n = [] then s.globalEvents else s.globalEvents ||| 0x02 := by
  obtain ⟨-, -, hqueue, hevents, -⟩ := markedAtEnd_pool cause keep s n
  obtain ⟨hrecorded, hset⟩ := completion_recordList (abandonedRecords s n) (nodup_abandonedRecords h)
    (fun x hx => (held_afterReleases cause keep h x hx).1)
  rw [endSession_eq_recordList, State.completion_setEvent, State.globalEvents_setEvent, hrecorded, hset,
    State.afterReleases, completion_releaseList, globalEvents_releaseList, hqueue, hevents]
  exact ⟨rfl, rfl⟩

theorem poolFrame_endSession (s : State) (n : LinkId) : PoolFrame s (s.endSession n cause keep) := by
  obtain ⟨-, -, -, -, -, hmarked⟩ := markedAtEnd_pool cause keep s n
  rw [endSession_eq_recordList]
  exact ((hmarked.trans (poolFrame_releaseList _ _)).trans (poolFrame_recordList _ _)).trans (poolFrame_modLink n _ _)

/-! ## The links -/

theorem link_afterReleases (h : LinkOwns s n) (m : LinkId) :
    (s.afterReleases n cause keep).link m =
      if m = n then linkEnded cause keep (s.link n)
      else if s.releasesAtEnd n ≠ [] ∧ (s.afterReleases n cause keep).updateDue m = true then (s.link m).makeReceipt
      else s.link m := by
  have hlink := link_releaseList (s.releasesAtEnd n) (nodup_releasesAtEnd s n) (held_markedAtEnd cause keep h)
    (full := s.fullAtEnd n) m
  rw [link_markedAtEnd] at hlink
  by_cases hm : m = n
  · subst hm
    rw [if_pos rfl] at hlink ⊢
    have hclosed : ¬ (s.afterReleases m cause keep).updateDue m = true := by
      intro hdue
      obtain ⟨hlive, -⟩ := (updateDue_iff _ _).mp hdue
      unfold State.afterReleases State.le at hlive
      rw [hlink] at hlive
      split at hlive <;> exact absurd hlive Bool.false_ne_true
    exact hlink.trans (if_neg fun hall => hclosed hall.2)
  · rw [if_neg hm] at hlink ⊢
    exact hlink

theorem updateDue_endSession (h : LinkOwns s n) (m : LinkId) :
    (s.endSession n cause keep).updateDue m = (s.afterReleases n cause keep).updateDue m := by
  obtain ⟨hlinks, hdescs, hblocks, -⟩ := recordList_pool (abandonedRecords s n) (s.afterReleases n cause keep)
  have hlink : ∀ k, ((s.afterReleases n cause keep).recordList (abandonedRecords s n)).link k =
      (s.afterReleases n cause keep).link k := fun k => by unfold State.link; rw [hlinks]
  rw [endSession_eq_recordList]
  refine updateDue_congr (fun k => ?_) (fun k => ?_) hdescs hblocks fun k => ?_
  · rw [State.le_setEvent, State.le, hlink, State.le]
  · rw [State.link_setEvent]
    split
    · rename_i hk
      rw [hk, ← hlink]
    · rw [hlink]
  · exact used_recordList _ (nodup_abandonedRecords h) (fun x hx => (held_afterReleases cause keep h x hx).1)
      (fun x hx => (held_afterReleases cause keep h x hx).2) k

theorem link_endSession (h : LinkOwns s n) (m : LinkId) :
    (s.endSession n cause keep).link m =
      if m = n then { linkEnded cause keep (s.link n) with events := (s.link n).events ||| cause.event.bit }
      else if s.releasesAtEnd n ≠ [] ∧ (s.endSession n cause keep).updateDue m = true then (s.link m).makeReceipt
      else s.link m := by
  obtain ⟨hlinks, -⟩ := recordList_pool (abandonedRecords s n) (s.afterReleases n cause keep)
  have hlink : ∀ k, ((s.afterReleases n cause keep).recordList (abandonedRecords s n)).link k =
      (s.afterReleases n cause keep).link k := fun k => by unfold State.link; rw [hlinks]
  rw [updateDue_endSession cause keep h, endSession_eq_recordList, State.link_setEvent, hlink, hlink,
    link_afterReleases cause keep h, link_afterReleases cause keep h, if_pos rfl]
  split <;> rfl

theorem releasedAtEnd_iff (s : State) (n : LinkId) (d : DescId) :
    releasedAtEnd s n d = true ↔ endRole s n d = .completes ∨ endRole s n d = .frees := by
  have hheld := state_of_endRole (s := s) (n := n) (d := d)
  unfold releasedAtEnd
  rw [afterSessionEnd_eq]
  cases hrole : endRole s n d <;> cases hreporting : (s.le n).latched.reporting <;> simp_all

theorem any_releasedAtEnd_iff (h : LinkOwns s n) :
    (List.finRange 64).any (releasedAtEnd s n) = true ↔ s.releasesAtEnd n ≠ [] := by
  have hmem : ∀ d, releasedAtEnd s n d = true ↔ d ∈ s.releasesAtEnd n := fun d => by
    rw [releasedAtEnd_iff, mem_releasesAtEnd h]
  rw [List.any_eq_true]
  constructor
  · rintro ⟨d, -, hd⟩
    exact List.ne_nil_of_mem ((hmem d).mp hd)
  · intro hsome
    obtain ⟨d, hd⟩ := List.exists_mem_of_ne_nil _ hsome
    exact ⟨d, List.mem_finRange d, (hmem d).mpr hd⟩

end

theorem event_bit_of_cause {cause : EndCause} (h : cause ≠ .none) :
    cause.event.bit = if cause = .normal ∨ cause = .closeUnconfirmed ∨ cause = .aborted then 0x02 else 0x04 := by
  cases cause with
  | none => exact absurd rfl h
  | _ => rfl

theorem sessionEnd_tx (t : Tx) : t.sessionEnd = if t.descriptor ≠ none then parcelCut t else t := by
  unfold Tx.sessionEnd
  cases t.descriptor <;> rfl

/-- A session end on a link whose descriptors stand where their states say is `SessionEnded` (R80, R82). -/
theorem sessionEnded_endSession {s : State} {n : LinkId} {cause : EndCause} (keep : Keep) (h : LinkOwns s n)
    (hcause : cause ≠ .none) :
    SessionEnded n cause ((s.le n).pending.drop && keep.drop) ((s.le n).pending.closeAck && keep.closeAck)
      ((s.le n).pending.grant && keep.grant) (s.le n).dropEpoch s (s.endSession n cause keep) := by
  obtain ⟨hcompletion, hglobal⟩ := completion_endSession cause keep h
  refine ⟨?_, desc_endSession cause keep h, freeDescs_endSession cause keep h, freeBlocks_endSession cause keep h,
    watermarkOk_endSession cause keep h, hcompletion, hglobal, fun m hm => ?_, poolFrame_endSession cause keep s n⟩
  · rw [link_endSession cause keep h, if_pos rfl, event_bit_of_cause hcause, linkEnded, LineUnit.sessionEnd, sessionEnd_tx]
    rfl
  · rw [link_endSession cause keep h, if_neg hm]
    simp only [any_releasedAtEnd_iff h]

end Sys2Proof.Machine
end

section
/-! The family of chapter 2: breaks, the return to mark, line loss and gap expiry (R27-R31, R40, R41). -/

namespace Sys2Proof.Machine
open Sys2Proof.Safety

/-! ## What an abandonment changes (R40) -/

/-- A release changes no link but for its RECEIPT flag (R17). -/
theorem link_releaseToFree (d : DescId) (s : State) (m : LinkId) :
    (s.releaseToFree d).link m = s.link m ∨ (s.releaseToFree d).link m = (s.link m).makeReceipt := by
  by_cases h : (s.desc d).state = .free
  · rw [State.releaseToFree, if_pos h]
    exact .inl rfl
  · obtain ⟨-, -, -, -, -, -, -, hlink⟩ := released_releaseToFree h
    rw [hlink]
    split
    · exact .inr rfl
    · exact .inl rfl

theorem lu_releaseToFree (d : DescId) (s : State) (m : LinkId) : (s.releaseToFree d).lu m = s.lu m := by
  unfold State.lu
  rcases link_releaseToFree d s m with h | h <;> rw [h]
  rfl

theorem lu_releaseRecord (n m : LinkId) (s : State) : (s.releaseRecord n).lu m = s.lu m := by
  unfold State.releaseRecord
  split
  · exact lu_releaseToFree _ s m
  · rfl

/-- The count of an occurrence leaves every Link Engine alone. -/
theorem le_count (n m : LinkId) (c : Counter) (s : State) : (s.count n c).le m = s.le m := by
  unfold State.count State.bump State.setHalf State.le
  split <;> simp only [State.link_setGlobal, State.link_modLink] <;> split <;> rename_i h <;> simp [h]

theorem lu_abandon (n : LinkId) (cause : DropCause) (s : State) : (s.abandon n cause).lu n = (s.lu n).toHunt := by
  unfold State.abandon State.reportDrop
  rw [lu_count, State.lu_modLU_same, lu_releaseRecord]

/-- An abandonment changes the record and the gap timer alone in its Line Unit. -/
theorem lu_abandonIfOpen (n : LinkId) (cause : DropCause) (s : State) :
    ∃ r g, (s.abandonIfOpen n cause).lu n = { s.lu n with record := r, gapTimer := g } := by
  unfold State.abandonIfOpen
  split
  · exact ⟨_, _, lu_abandon n cause s⟩
  · exact ⟨_, _, rfl⟩

theorem queues_releaseRecord (n : LinkId) (s : State) :
    ((s.releaseRecord n).le n).submit = (s.le n).submit ∧ ((s.releaseRecord n).le n).retention = (s.le n).retention ∧
      ((s.releaseRecord n).le n).window = (s.le n).window := by
  unfold State.releaseRecord State.le
  split
  · rcases link_releaseToFree _ s n with h | h <;> rw [h] <;> exact ⟨rfl, rfl, rfl⟩
  · exact ⟨rfl, rfl, rfl⟩

theorem queues_abandon (n : LinkId) (cause : DropCause) (s : State) :
    ((s.abandon n cause).le n).submit = (s.le n).submit ∧ ((s.abandon n cause).le n).retention = (s.le n).retention ∧
      ((s.abandon n cause).le n).window = (s.le n).window := by
  unfold State.abandon State.reportDrop
  rw [le_count, State.le_modLU]
  exact queues_releaseRecord n s

theorem desc_abandon {n : LinkId} {cause : DropCause} {s : State}
    (h : ∀ d, (s.lu n).record.descriptor = some d → (s.desc d).state ≠ .free) (x : DescId) :
    (s.abandon n cause).desc x = if (s.lu n).record.descriptor = some x then {} else s.desc x := by
  unfold State.abandon State.reportDrop State.releaseRecord
  rw [State.desc_count, State.desc_modLU]
  split
  · rename_i d hd
    obtain ⟨-, -, hfreed, hothers, -⟩ := released_releaseToFree (h d hd)
    by_cases hx : x = d
    · rw [hx, hfreed, hd, if_pos rfl]
    · rw [hothers x hx, hd, if_neg fun heq => hx (Option.some.inj heq).symm]
  · rename_i hd
    rw [hd, if_neg nofun]

/-! ## A link's descriptors stand where they did -/

/-- What `LinkOwns` rests on. -/
theorem linkOwns_congr {s t : State} {n : LinkId} (h : LinkOwns s n) (hdesc : ∀ d, t.desc d = s.desc d)
    (hqueues : (t.le n).submit = (s.le n).submit ∧ (t.le n).retention = (s.le n).retention ∧
      (t.le n).window = (s.le n).window)
    (hrecord : (t.lu n).record = (s.lu n).record) (htx : (t.lu n).tx = (s.lu n).tx) : LinkOwns t n := by
  obtain ⟨hsubmit, hretention, hwindow⟩ := hqueues
  unfold LinkOwns State.isOnLine at *
  simp only [hdesc, hsubmit, hretention, hwindow, hrecord, htx]
  exact h

theorem assembling_of_linkOwns {s : State} {n : LinkId} (h : LinkOwns s n) {d : DescId}
    (hd : (s.lu n).record.descriptor = some d) : (s.desc d).state = .assembling ∧ (s.desc d).link = some n := by
  obtain ⟨-, -, -, howns⟩ := h
  obtain ⟨-, -, -, hrecord, -⟩ := howns d
  exact hrecord.mp hd

/-- A link that abandons a parcel still owns what is left. -/
theorem linkOwns_abandon {s : State} {n : LinkId} (h : LinkOwns s n) (cause : DropCause) :
    LinkOwns (s.abandon n cause) n := by
  have hassembling := fun d => assembling_of_linkOwns h (d := d)
  have hheld : ∀ d, (s.lu n).record.descriptor = some d → (s.desc d).state ≠ .free := fun d hd => by
    rw [(hassembling d hd).1]
    decide
  obtain ⟨hsubmit, hretention, hwindow⟩ := queues_abandon n cause s
  obtain ⟨hnsubmit, hnretention, hnwindow, howns⟩ := h
  unfold LinkOwns State.isOnLine
  dsimp only
  rw [hsubmit, hretention, hwindow, lu_abandon]
  refine ⟨hnsubmit, hnretention, hnwindow, fun d => ?_⟩
  have hd := howns d
  rw [desc_abandon hheld]
  by_cases hparcel : (s.lu n).record.descriptor = some d
  · obtain ⟨hstate, hlink⟩ := hassembling d hparcel
    rw [if_pos hparcel]
    simp only [hstate, hlink] at hd
    obtain ⟨hqueued, hkept, hsaved, -, -⟩ := hd
    simp [hqueued, hkept, hsaved, LineUnit.toHunt]
  · obtain ⟨hqueued, hkept, hsaved, hrecord, htx⟩ := hd
    rw [if_neg hparcel]
    exact ⟨hqueued, hkept, hsaved, ⟨nofun, fun hall => absurd (hrecord.mpr hall) hparcel⟩, htx⟩

theorem linkOwns_abandonIfOpen {s : State} {n : LinkId} (h : LinkOwns s n) (cause : DropCause) :
    LinkOwns (s.abandonIfOpen n cause) n := by
  unfold State.abandonIfOpen
  split
  · exact linkOwns_abandon h cause
  · exact h

/-- A parcel that a link owns is dropped by its abandonment (R40). -/
theorem droppedIfOpen_of_linkOwns {s : State} {n : LinkId} (h : LinkOwns s n) (cause : DropCause) :
    DroppedIfOpen n cause.counter s (s.abandonIfOpen n cause) :=
  droppedIfOpen_abandonIfOpen cause fun d hd => by
    rw [(assembling_of_linkOwns h hd).1]
    decide

/-- A change of a Line Unit that keeps its record and its transmitter. -/
theorem linkOwns_modLU {s : State} {n : LinkId} (h : LinkOwns s n) {f : LineUnit → LineUnit}
    (hrecord : (f (s.lu n)).record = (s.lu n).record) (htx : (f (s.lu n)).tx = (s.lu n).tx) : LinkOwns (s.modLU n f) n := by
  refine linkOwns_congr h (fun d => State.desc_modLU n f s d) ?_ ?_ ?_
  · rw [State.le_modLU]
    exact ⟨rfl, rfl, rfl⟩
  · rw [State.lu_modLU_same, hrecord]
  · rw [State.lu_modLU_same, htx]

/-! ## A line goes down (R29, R30) -/

/-- The change to DOWN, with the session end that action FAIL brings. -/
theorem lineWentDown_lineDown {s : State} {n : LinkId} (h : LinkOwns s n) : LineWentDown n s (s.lineDown n) := by
  have hdown : (s.modLU n fun u => { u with lineState := .down, run := 0 }).setEvent n .lineDown =
      s.modLink n fun l => { l with events := l.events ||| 0x40, lu := { l.lu with lineState := .down, run := 0 } } :=
    modLink_modLink n _ _ s
  have howns : LinkOwns ((s.modLU n fun u => { u with lineState := .down, run := 0 }).setEvent n .lineDown) n := by
    refine linkOwns_congr h (fun d => rfl) ?_ ?_ ?_
    · rw [State.le_setEvent, State.le_modLU]
      exact ⟨rfl, rfl, rfl⟩
    · rw [State.lu_setEvent, State.lu_modLU_same]
    · rw [State.lu_setEvent, State.lu_modLU_same]
  have hle : ((s.modLU n fun u => { u with lineState := .down, run := 0 }).setEvent n .lineDown).le n = s.le n := by
    rw [State.le_setEvent, State.le_modLU]
  have hended := sessionEnded_endSession (cause := .lineLost) {} howns (by decide)
  simp only [Bool.and_false, hle] at hended
  unfold LineWentDown State.lineDown
  split
  · rw [← hdown]
    exact hended
  · exact hdown

/-! ## RXD at mark (R27) -/

/-- RXD at mark ends a held character and a break, and leaves what a reset has lost. -/
theorem lu_atMark (n : LinkId) (s : State) : ((s.atMark n).lu n).heldSpace = false ∧
    ((s.atMark n).lu n).breakPresent = false ∧ ((s.atMark n).lu n).rx = (s.lu n).rx := by
  unfold State.atMark
  split
  · obtain ⟨r, g, hlu⟩ := lu_abandonIfOpen n .charFault
      ((s.modLU n fun u => { u with heldSpace := false, breakPresent := false }).faultedCharacter n)
    unfold State.recognised
    rw [hlu, State.faultedCharacter, lu_count, State.lu_modLU_same, State.lu_modLU_same]
    exact ⟨rfl, rfl, rfl⟩
  · rename_i hheld
    rw [State.lu_modLU_same]
    exact ⟨Bool.not_eq_true _ ▸ hheld, rfl, rfl⟩

theorem atMark_atMark (n : LinkId) (s : State) : (s.atMark n).atMark n = s.atMark n := by
  obtain ⟨hheld, hbreak, -⟩ := lu_atMark n s
  exact atMark_eq_self hheld hbreak

/-- Settles O44: each event is its abandonment, then its line-down change. -/
theorem breakLineLossAndGapExpiry : Obligations.BreakLineLossAndGapExpiry := by
  intro n s lossOver gapOver
  have hloss : lossOver ↔ (s.lu n).lossOver = true := (lossOver_iff (s.lu n)).symm
  have hgap : gapOver ↔ (s.lu n).gapOver = true := (gapOver_iff (s.lu n)).symm
  refine ⟨fun hnone => ?_, fun hbreak hspace _ howners => ?_, fun hheld => ?_, fun hheld hassembling => ?_,
    fun x t ht hlost => ?_, fun x hlost => ?_, fun hrest => ?_, fun hover hdown => ?_, fun hover hup _ howners => ?_,
    fun hrest => ?_, fun hover hphase hassembling => ?_⟩
  · simp only [exec, execLineBreak]
    rcases hnone with hbreak | hspace
    · simp [State.breakRecognised, hbreak]
    · rw [if_pos (Option.isSome_iff_ne_none.mpr hspace)]
  · obtain ⟨-, howns, -⟩ := howners
    obtain ⟨broken, hbroken⟩ : ∃ b, b = s.modLU n fun u => { u with heldSpace := false, breakPresent := true, run := 0 } :=
      ⟨_, rfl⟩
    have hb : LinkOwns broken n := by rw [hbroken]; exact linkOwns_modLU (howns n) rfl rfl
    have hdropped : DroppedIfOpen n .dropLine broken (broken.abandonIfOpen n .truncated) :=
      droppedIfOpen_of_linkOwns hb .truncated
    refine ⟨broken.abandonIfOpen n .truncated,
      if (s.lu n).lineState = .up then (broken.abandonIfOpen n .truncated).lineDown n
        else broken.abandonIfOpen n .truncated, ?_, hbroken ▸ hdropped, ?_⟩
    · simp only [exec, execLineBreak, hspace, State.breakRecognised, hbreak, hbroken]
      rfl
    · split
      · exact lineWentDown_lineDown (linkOwns_abandonIfOpen hb _)
      · rfl
  · simp [exec, execRxdReturnsToMark, State.atMark, hheld]
  · obtain ⟨base, hbase⟩ : ∃ b, b = (s.modLU n fun u => { u with heldSpace := false, breakPresent := false, run := 0 }).count n
        .charFaults := ⟨_, rfl⟩
    have hmark : s.atMark n = base.abandonIfOpen n .charFault := by
      have hmerged : ((s.modLU n fun u => { u with heldSpace := false, breakPresent := false }).modLU n fun u =>
          { u with run := 0 }) = s.modLU n fun u => { u with heldSpace := false, breakPresent := false, run := 0 } :=
        modLink_modLink n _ _ s
      rw [State.atMark, if_pos hheld, State.recognised, State.faultedCharacter, hmerged, hbase]
    rw [← hbase]
    refine ⟨base.abandonIfOpen n .charFault, congrArg _ hmark, droppedIfOpen_abandonIfOpen .charFault fun d hd => ?_⟩
    rw [hbase, lu_count, State.lu_modLU_same] at hd
    rw [hbase, State.desc_count, State.desc_modLU, hassembling d hd]
    decide
  · obtain rfl := Host.Outcome.next.inj ht
    obtain ⟨-, -, hrx⟩ := lu_atMark n s
    simp only [exec, execReceiveCharacter, State.receiveSamples, hrx, if_neg hlost, atMark_atMark]
  · simp only [exec, execReceiveCharacter, hlost, if_true]
  · simp only [exec, execLineLossExpiry, if_neg (mt hloss.mpr hrest)]
  · simp only [exec, execLineLossExpiry, if_pos (hloss.mp hover), State.lineLossExpires, hdown]
    rfl
  · obtain ⟨-, howns, -⟩ := howners
    have hb : LinkOwns (s.modLU n fun u => { u with lossTimer := none }) n := linkOwns_modLU (howns n) rfl rfl
    refine ⟨(s.modLU n fun u => { u with lossTimer := none }).abandonIfOpen n .truncated, _, ?_,
      droppedIfOpen_of_linkOwns hb .truncated, lineWentDown_lineDown (linkOwns_abandonIfOpen hb _)⟩
    simp only [exec, execLineLossExpiry, if_pos (hloss.mp hover), State.lineLossExpires, hup, if_true]
  · simp only [exec, execGapTimerExpiry, if_neg (mt hgap.mpr hrest)]
  · refine ⟨(s.modLU n fun u => { u with gapTimer := none }).abandonIfOpen n .gap, ?_, ?_⟩
    · simp only [exec, execGapTimerExpiry, if_pos (hgap.mp hover), State.gapExpires]
    · have hopen : (s.modLU n fun u => { u with gapTimer := none }).inParcel n = true := by simp [State.inParcel, hphase]
      rw [State.abandonIfOpen, if_pos hopen]
      refine dropped_abandon .gap fun d hd => ?_
      rw [State.lu_modLU_same] at hd
      rw [State.desc_modLU, hassembling d hd]
      decide

end Sys2Proof.Machine
end

section
/-! The family of chapter 3: the check sequence and the transmit choice (R32, R50, R51, R55-R58). -/

namespace Sys2Proof.Machine
open Sys2Proof.Safety

/-! ## The check sequence (R50, R51) -/

theorem checkBit_eq (r : Word) (b : Bool) :
    checkBit r b = if r.getLsbD 0 = b then r >>> 1 else (r >>> 1) ^^^ 0x8408 := by
  unfold checkBit
  by_cases h : r.getLsbD 0 = b
  · rw [if_pos h, h, bne_self_eq_false, if_neg Bool.false_ne_true]
  · rw [if_neg h, if_pos (bne_iff_ne.mpr h)]

/-- Settles O37: the check bytes shift the register out, bit for bit. -/
theorem checkSequenceLeavesZero : Obligations.CheckSequenceLeavesZero := by
  refine ⟨rfl, fun bytes b => ?_, fun r b => ?_, fun r => rfl, fun bytes => ?_⟩
  · exact List.foldl_append
  · simp only [checkByte, checkBit_eq]
  · exact List.foldl_append.trans (foldl_checkByte_checkBytes (checkOf bytes))

/-! ## The transmit choice (R56-R58) -/

theorem sending_iff (st : SessionState) : st.sending = true ↔ st = .open_ ∨ st = .draining := by
  cases st <;> decide

theorem canChoose_iff (s : State) (n : LinkId) : (s.lu n).tx.canChoose = true ↔ AtBoundary s n := by
  unfold Tx.canChoose AtBoundary
  cases (s.lu n).tx.phase <;> simp

theorem exec_transmitChoice_of_atBoundary {s : State} {n : LinkId} (h : AtBoundary s n) :
    exec (.transmitChoice n) s = .next (s.makeChoice n) := if_pos ((canChoose_iff s n).mpr h)

theorem exec_transmitChoice_of_not_atBoundary {s : State} {n : LinkId} (h : ¬ AtBoundary s n) :
    exec (.transmitChoice n) s = .next s := if_neg (mt (canChoose_iff s n).mp h)

/-- The resend candidate heads the marked descriptors (R58). -/
theorem resendCandidate_eq_head? (s : State) (n : LinkId) :
    s.resendCandidate n = ((s.le n).retention.filter fun d => (s.desc d).resendPending = some true).head? := by
  have hmarked : (fun d => (s.desc d).resendPending == some true) = fun d => decide ((s.desc d).resendPending = some true) :=
    funext fun d => Bool.eq_iff_iff.mpr (by simp)
  rw [List.head?_filter, State.resendCandidate, hmarked]

/-- The submit queue's head is sent in OPEN and DRAINING, within the bound (R57). -/
theorem sendCandidate_of_submit {e : LinkEngine} {d : DescId} {rest : List DescId} (h : e.submit = d :: rest) :
    e.sendCandidate = if (e.session = .open_ ∨ e.session = .draining) ∧ e.retention.length < min 8 e.peerCredit then
      some d else none := by
  simp only [LinkEngine.sendCandidate, h, List.head?_cons, Bool.and_eq_true, decide_eq_true_iff, sending_iff]

theorem sendCandidate_of_submit_nil {e : LinkEngine} (h : e.submit = []) : e.sendCandidate = none := by
  rw [LinkEngine.sendCandidate, h, List.head?_nil, ite_self]

/-- The choice where no flag above DATA is available: a resend, a first send or a QUERY (R56-R58). -/
def State.chooseBelowReceipt (s : State) (n : LinkId) : Choice :=
  match s.resendCandidate n, (s.le n).sendCandidate with
  | some d, _ => .resend d
  | none, some d => .firstSend d
  | none, none => if (s.le n).pending.query && (s.le n).session.sending then .query else .nothing

/-- The flags above DATA, in their order (R56). -/
theorem choose_eq (s : State) (n : LinkId) :
    s.choose n =
      if (s.le n).pending.drop then .drop
      else if (s.le n).pending.grant && (s.le n).session.live then .grant
      else if (s.le n).pending.closeAck then .closeAck
      else if (s.le n).pending.open_ && (s.le n).session == .opening then .open_
      else if (s.le n).pending.close && (s.le n).session == .closing then .close
      else if (s.le n).pending.receipt && (s.le n).session.live then .receipt
      else s.chooseBelowReceipt n := rfl

theorem chooseBelowReceipt_eq (s : State) (n : LinkId) :
    s.chooseBelowReceipt n =
      match (s.le n).retention.filter fun d => (s.desc d).resendPending = some true, (s.le n).submit with
      | d :: _, _ => .resend d
      | [], d :: _ =>
        if ((s.le n).session = .open_ ∨ (s.le n).session = .draining) ∧
            (s.le n).retention.length < min 8 (s.le n).peerCredit then .firstSend d
        else if (s.le n).pending.query = true ∧ ((s.le n).session = .open_ ∨ (s.le n).session = .draining) then .query
        else .nothing
      | [], [] =>
        if (s.le n).pending.query = true ∧ ((s.le n).session = .open_ ∨ (s.le n).session = .draining) then .query
        else .nothing := by
  unfold State.chooseBelowReceipt
  rw [resendCandidate_eq_head?]
  simp only [Bool.and_eq_true, sending_iff]
  cases (s.le n).retention.filter fun d => (s.desc d).resendPending = some true with
  | cons d rest => rfl
  | nil =>
    cases hsubmit : (s.le n).submit with
    | nil => rw [sendCandidate_of_submit_nil hsubmit]; rfl
    | cons d rest =>
      rw [sendCandidate_of_submit hsubmit]
      dsimp only [List.head?_nil]
      split_ifs <;> rfl

/-- Where the choice takes none of the flags above DATA, none of them is of a kind sent in the session state (R56). -/
theorem sentIn_of_choose {s : State} {n : LinkId}
    (h : s.choose n ∉ [.drop, .grant, .closeAck, .open_, .close, .receipt]) :
    (s.le n).pending.sentIn (s.le n).session =
      { query := (s.le n).pending.query && (s.le n).session.sending } := by
  rw [choose_eq] at h
  split_ifs at h with hdrop hgrant hcloseAck hopen hclose hreceipt
  case neg => simp only [Pending.sentIn, hdrop, hgrant, hcloseAck, hopen, hclose, hreceipt]
  all_goals exact absurd (by decide) h

theorem query_of_choose_nothing {s : State} {n : LinkId} (h : s.choose n = .nothing) :
    ((s.le n).pending.query && (s.le n).session.sending) = false := by
  rw [choose_eq] at h
  split_ifs at h
  unfold State.chooseBelowReceipt at h
  split at h
  · cases h
  · cases h
  · split_ifs at h with hquery
    exact Bool.eq_false_of_not_eq_true hquery

/-- What a choice at a parcel boundary does: the flags, then the parcel or the IDLE that starts. -/
theorem exec_transmitChoice_of_choose {s : State} {n : LinkId} {c : Choice} (hb : AtBoundary s n) (hc : s.choose n = c) :
    exec (.transmitChoice n) s =
      .next ((s.modLink n (pendingIs ((s.le n).pending.afterChoice (s.le n).session c))).start n c) := by
  subst hc
  exact exec_transmitChoice_of_atBoundary hb

/-- Settles O47: the flags in their order, then the data and QUERY by what the two queues offer. -/
theorem transmitChoiceOrder : Obligations.TransmitChoiceOrder := by
  intro n s
  refine ⟨?_, exec_transmitChoice_of_not_atBoundary, fun hb hc => ?_⟩
  · have horder := choose_eq s n
    simp only [Bool.and_eq_true, beq_iff_eq, live_iff, chooseBelowReceipt_eq] at horder
    exact horder
  · have hflags : (s.le n).pending.afterChoice (s.le n).session .nothing = {} := by
      change (s.le n).pending.sentIn (s.le n).session = {}
      rw [sentIn_of_choose (by rw [hc]; decide), query_of_choose_nothing hc]
    rw [exec_transmitChoice_of_choose hb hc, hflags]
    exact congrArg Host.Outcome.next (modLink_modLink n (pendingIs {}) idleStarted s)

end Sys2Proof.Machine
end

section
/-! The family of chapter 3: what a control parcel carries and what its start does (R33, R47, R54-R56, R59-R61, R71, R136, R212). -/

namespace Sys2Proof.Machine
open Sys2Proof.Safety

/-! ## Header bytes (R47, R59-R61, R212) -/

theorem firstByte_eq (k : Kind) (flag : Bool) (e : Epoch) :
    firstByte k flag e = BitVec.ofNat 8 (16 * e.toNat + (8 * flag.toNat + k.value.toNat)) := by
  revert e; cases k <;> cases flag <;> decide

/-- A flag Set at place `k`. -/
theorem getLsbD_set {w : Nat} (m : BitVec w) (b : Bool) (k : Nat) {i : Nat} (hi : i < w) :
    (if b then m ||| (1 : BitVec w) <<< k else m).getLsbD i = (m.getLsbD i || (decide (k = i) && b)) := by
  have hplace : ((1 : BitVec w) <<< k).getLsbD i = (decide (k < w) && decide (k = i)) := BitVec.getLsbD_twoPow k i
  cases b with
  | false => rw [if_neg Bool.false_ne_true, Bool.and_false, Bool.or_false]
  | true =>
    rw [if_pos rfl, BitVec.getLsbD_or, hplace, Bool.and_true]
    by_cases hk : k = i
    · simp [hk, hi]
    · simp [hk]

/-- Flags Set one after another, each at its own place. -/
theorem getLsbD_foldl_set {w : Nat} (p : Nat → Bool) (k : Nat) {i : Nat} (hi : i < w) :
    ((List.range k).foldl (fun m j => if p j then m ||| (1 : BitVec w) <<< j else m) 0).getLsbD i =
      (decide (i < k) && p i) := by
  induction k with
  | zero => simp
  | succ k ih =>
    rw [List.range_succ, List.foldl_append, List.foldl_cons, List.foldl_nil, getLsbD_set _ _ _ hi, ih]
    by_cases hk : k = i
    · simp [hk]
    · have hbefore : i < k + 1 ↔ i < k := by omega
      simp only [hk, hbefore, decide_false, Bool.false_and, Bool.or_false]

/-- The gap map reports the offsets at which something is HELD (R61). -/
theorem getLsbD_gapMap (e : LinkEngine) {i : Nat} (hi : i < 7) :
    e.gapMap.getLsbD i = true ↔ ∃ d, e.window[i]? = some (some d) := by
  rw [LinkEngine.gapMap, getLsbD_foldl_set _ 7 hi, List.getD_eq_getElem?_getD]
  rcases e.window[i]? with _ | _ | d <;> simp [hi]

/-! ## Control parcels as they start (R33, R54-R56, R59-R61, R136) -/

/-- A link whose last advertised credit is `c` (R136). -/
def advertisedIs (c : Nat) (l : Link) : Link := { l with le := { l.le with advertised := c } }

/-- A credit is at most 8 (R152). -/
theorem credit_le (s : State) (n : LinkId) : s.credit n ≤ 8 := Nat.min_le_left ..

theorem send_eq (n : LinkId) (bytes : List Byte) (d : Option DescId) (s : State) :
    s.send n bytes d = s.modLink n (parcelStarted bytes d) := rfl

theorem advertise_eq (n : LinkId) (c : Nat) (s : State) : s.advertise n c = s.modLink n (advertisedIs c) := rfl

theorem sendPlain_eq (n : LinkId) (k : Kind) (s : State) :
    s.sendPlain n k = s.modLink n (parcelStarted [BitVec.ofNat 8 (16 * (s.le n).epoch.toNat + k.value.toNat)] none) := by
  rw [State.sendPlain, plainHeader, firstByte_eq, Bool.toNat_false, Nat.mul_zero, Nat.zero_add, send_eq]

theorem sendDrop_eq (n : LinkId) (s : State) :
    s.sendDrop n = s.modLink n (parcelStarted [BitVec.ofNat 8 (16 * (s.le n).dropEpoch.toNat + 7)] none) := by
  rw [State.sendDrop, plainHeader, firstByte_eq, send_eq]
  rfl

theorem sendGrant_eq (n : LinkId) (s : State) :
    s.sendGrant n = s.modLink n fun l => parcelStarted
      [BitVec.ofNat 8 (16 * (s.le n).epoch.toNat + 4), BitVec.ofNat 8 (s.credit n)] none (advertisedIs (s.credit n) l) := by
  rw [State.sendGrant, grantHeader, firstByte_eq, send_eq, advertise_eq, modLink_modLink]
  rfl

/-- Credit and rank fit their fields, so that the header's byte is their sum. -/
theorem sendOpen_eq (n : LinkId) {s : State} (hrank : (s.le n).latched.rank ≤ 3) :
    s.sendOpen n = s.modLink n fun l => parcelStarted
      [BitVec.ofNat 8 (16 * (s.le n).epoch.toNat + 3), BitVec.ofNat 8 (s.credit n + 16 * (s.le n).latched.rank)] none
      (advertisedIs (s.credit n) l) := by
  have hcredit : s.credit n % 16 = s.credit n := Nat.mod_eq_of_lt (Nat.lt_of_le_of_lt (credit_le s n) (by decide))
  have hfield : (s.le n).latched.rank % 4 = (s.le n).latched.rank := Nat.mod_eq_of_lt (Nat.lt_succ_of_le hrank)
  rw [State.sendOpen, openHeader, firstByte_eq, hcredit, hfield, send_eq, advertise_eq, modLink_modLink]
  rfl

theorem sendReceipt_eq (n : LinkId) (s : State) :
    s.sendReceipt n = (s.modLink n fun l =>
      let a := advertisedIs (s.credit n) l
      parcelStarted [BitVec.ofNat 8 (16 * (s.le n).epoch.toNat + 1), BitVec.ofNat 8 (s.le n).expected.toNat,
        BitVec.ofNat 8 (s.le n).gapMap.toNat, BitVec.ofNat 8 (s.credit n)] none
        { a with le := { a.le with accepted := 0, holdTimer := none } }).count n .rcptSent := by
  rw [State.sendReceipt, receiptHeader, firstByte_eq, BitVec.ofNat_toNat, BitVec.ofNat_toNat, send_eq, advertise_eq,
    State.modLE, modLink_modLink, modLink_modLink]
  rfl

/-! ## The flags beside the parcel (R55, R56, R71) -/

@[simp] theorem le_modLink_pendingIs (n : LinkId) (p : Pending) (s : State) :
    (s.modLink n (pendingIs p)).le n = { s.le n with pending := p } := by
  rw [State.le, State.link_modLink_same]
  rfl

/-- The credit does not rest on the pending flags (R152). -/
@[simp] theorem credit_modLink_pendingIs (n : LinkId) (p : Pending) (s : State) :
    (s.modLink n (pendingIs p)).credit n = s.credit n := by
  have hguarantee : ∀ m, ((s.modLink n (pendingIs p)).link m).guarantee = (s.link m).guarantee := by
    intro m
    rw [State.link_modLink]
    split
    · rename_i hm; rw [hm]; rfl
    · rfl
  have hused : ∀ m, (s.modLink n (pendingIs p)).used m = s.used m := fun m => rfl
  have hheld : ((s.modLink n (pendingIs p)).le n).heldCount = (s.le n).heldCount := by
    rw [le_modLink_pendingIs]
    rfl
  simp only [State.credit, State.grantableBlocks, State.grantableDescs, hheld, othersReserve_eq_sum, hguarantee, hused,
    State.freeBlocks_modLink, State.freeDescs_modLink]

/-- The flags whose kind is sent in a session state, the states written out (R56). -/
theorem sentIn_eq (session : SessionState) (p : Pending) :
    p.sentIn session =
      { drop := p.drop
        grant := p.grant && decide (session = .open_ ∨ session = .draining ∨ session = .closing)
        closeAck := p.closeAck
        open_ := p.open_ && decide (session = .opening)
        close := p.close && decide (session = .closing)
        receipt := p.receipt && decide (session = .open_ ∨ session = .draining ∨ session = .closing)
        query := p.query && decide (session = .open_ ∨ session = .draining) } := by
  cases session <;> rfl

/-- A QUERY, CLOSE or CLOSE-ACK that a choice takes (R60). -/
theorem exec_transmitChoice_of_plain {s : State} {n : LinkId} {c : Choice} {k : Kind} (hb : AtBoundary s n)
    (hc : s.choose n = c) (hstart : ∀ t : State, t.start n c = t.sendPlain n k) :
    exec (.transmitChoice n) s = .next (s.modLink n fun l =>
      parcelStarted [BitVec.ofNat 8 (16 * (s.le n).epoch.toNat + k.value.toNat)] none
        (pendingIs ((s.le n).pending.afterChoice (s.le n).session c) l)) := by
  rw [exec_transmitChoice_of_choose hb hc, hstart, sendPlain_eq, le_modLink_pendingIs, modLink_modLink]

/-- Settles O48, kind by kind: what starts on the flags after the choice is the parcel of its kind. -/
theorem controlParcelContents : Obligations.ControlParcelContents := by
  intro n s hb e p _ _ _ _ _ sent
  have hsent : sent = p.sentIn e.session := (sentIn_eq e.session p).symm
  clear_value sent
  subst hsent
  have chosen : ∀ {c : Choice} {t : State}, s.choose n = c →
      (s.modLink n (pendingIs (p.afterChoice e.session c))).start n c = t → exec (.transmitChoice n) s = .next t :=
    fun hc ht => (exec_transmitChoice_of_choose hb hc).trans (congrArg Host.Outcome.next ht)
  refine ⟨fun hc => chosen hc ?drop, fun hc => chosen hc ?grant, fun hc => ?closeAck, fun hc hrank => chosen hc ?open_,
    fun hc => ?close, fun hc => ?query, fun hc => ⟨e.gapMap, fun i hi => getLsbD_gapMap e hi, chosen hc ?receipt⟩⟩
  case drop =>
    rw [State.start, sendDrop_eq, le_modLink_pendingIs, modLink_modLink]
    rfl
  case grant =>
    rw [State.start, sendGrant_eq, le_modLink_pendingIs, credit_modLink_pendingIs, modLink_modLink]
    rfl
  case open_ =>
    have hrank' : ((s.modLink n (pendingIs (p.afterChoice e.session .open_))).le n).latched.rank ≤ 3 := by
      rw [le_modLink_pendingIs]
      exact hrank
    rw [State.start, sendOpen_eq n hrank', le_modLink_pendingIs, credit_modLink_pendingIs, modLink_modLink]
    rfl
  case receipt =>
    rw [State.start, sendReceipt_eq, le_modLink_pendingIs, credit_modLink_pendingIs, modLink_modLink]
    rfl
  case closeAck | close | query => exact exec_transmitChoice_of_plain hb hc fun t => rfl

end Sys2Proof.Machine
end

section
/-! The rules of sessions: what OPEN, a drain and an establishment make of a Link Engine, when the drain test acts, and the session
end seen from the state before the event (R65-R80, R117, R128). -/

namespace Sys2Proof.Machine
open Sys2Proof.Safety

/-! ## One Link Engine changed -/

theorem modLE_modLE (n : LinkId) (f g : LinkEngine → LinkEngine) (s : State) :
    (s.modLE n f).modLE n g = s.modLE n fun e => g (f e) := modLink_modLink n _ _ s

theorem modLE_congr {n : LinkId} {f g : LinkEngine → LinkEngine} {s : State} (h : f (s.le n) = g (s.le n)) :
    s.modLE n f = s.modLE n g :=
  modLink_congr (congrArg (fun e => { s.link n with le := e }) h)

/-- A change of a Link Engine that keeps its queues and its window. -/
theorem linkOwns_modLE {s : State} {n : LinkId} (h : LinkOwns s n) {f : LinkEngine → LinkEngine}
    (hsubmit : (f (s.le n)).submit = (s.le n).submit) (hretention : (f (s.le n)).retention = (s.le n).retention)
    (hwindow : (f (s.le n)).window = (s.le n).window) : LinkOwns (s.modLE n f) n := by
  refine linkOwns_congr h (State.desc_modLE n f s) ?_ ?_ ?_
  · rw [State.le_modLE_same]
    exact ⟨hsubmit, hretention, hwindow⟩
  · rw [State.lu_modLE]
  · rw [State.lu_modLE]

theorem linkOwns_setEvent {s : State} {n : LinkId} (h : LinkOwns s n) (e : LinkEvent) : LinkOwns (s.setEvent n e) n := by
  refine linkOwns_congr h (State.desc_setEvent n e s) ?_ ?_ ?_
  · rw [State.le_setEvent]
    exact ⟨rfl, rfl, rfl⟩
  · rw [State.lu_setEvent]
  · rw [State.lu_setEvent]

/-! ## The session end from the state before its event (R80) -/

/-- The session end of an event that has first changed nothing of the Link Engine but its session state, its drain origin, its
pending flags and its DROP epoch: of those the cleanup keeps the flags that the event holds, and the DROP epoch. -/
theorem sessionEnded_endSession_modLE {s : State} {n : LinkId} {cause : EndCause} {f : LinkEngine → LinkEngine}
    {session : SessionState} {origin : Option DrainOrigin} {p : Pending} {dropEpoch : Epoch} (keep : Keep)
    (h : LinkOwns s n) (hcause : cause ≠ .none)
    (hf : f (s.le n) = { s.le n with session := session, drainOrigin := origin, pending := p, dropEpoch := dropEpoch }) :
    SessionEnded n cause (p.drop && keep.drop) (p.closeAck && keep.closeAck) (p.grant && keep.grant) dropEpoch s
      ((s.modLE n f).endSession n cause keep) := by
  have howns : LinkOwns (s.modLE n f) n := linkOwns_modLE h (by rw [hf]) (by rw [hf]) (by rw [hf])
  have hle : (s.modLE n f).le n =
      { s.le n with session := session, drainOrigin := origin, pending := p, dropEpoch := dropEpoch } := by
    rw [State.le_modLE_same, hf]
  have hlink : (s.modLE n f).link n = { s.link n with le := f (s.le n) } := State.link_modLink_same n _ s
  have hothers : ∀ m, m ≠ n → (s.modLE n f).link m = s.link m := fun m => State.link_modLink_ne n m _ s
  have hafter : AfterSessionEnd (s.modLE n f) n = AfterSessionEnd s n := by
    funext d
    unfold AfterSessionEnd
    rw [hle]
    rfl
  have hreleased : releasedAtEnd (s.modLE n f) n = releasedAtEnd s n := by
    funext d
    unfold releasedAtEnd
    rw [hafter]
    rfl
  have hrecords : abandonedRecords (s.modLE n f) n = abandonedRecords s n := by
    unfold abandonedRecords
    rw [hle]
    rfl
  obtain ⟨hended, hdescs, hfreeDescs, hfreeBlocks, hwatermark, hcompletion, hevents, hlinks, hframe⟩ :=
    sessionEnded_endSession (cause := cause) keep howns hcause
  rw [hafter] at hfreeDescs hfreeBlocks
  rw [hrecords] at hcompletion hevents
  refine ⟨?_, fun d => ?_, hfreeDescs, hfreeBlocks, hwatermark, hcompletion, hevents, fun m hm => ?_, ?_⟩
  · rw [hended, hle, hlink, State.lu_modLE]
  · rw [hdescs, hafter]
  · rw [hlinks m hm, hreleased, hothers m hm]
  · exact congrArg (fun u : State => { u with links := s.links }) hframe

/-- The result word takes no part in a session end. -/
theorem sessionEnded_setResult {s t : State} {n : LinkId} {cause : EndCause} {drop closeAck grant : Bool} {dropEpoch : Epoch}
    (h : SessionEnded n cause drop closeAck grant dropEpoch s t) (command : BitVec 4) (r : ResultCode) :
    SessionEnded n cause drop closeAck grant dropEpoch (s.setResult command r) (t.setResult command r) := by
  obtain ⟨hended, hdescs, hfreeDescs, hfreeBlocks, hwatermark, hcompletion, hevents, hlinks, hframe⟩ := h
  exact ⟨hended, hdescs, hfreeDescs, hfreeBlocks, hwatermark, hcompletion, hevents, hlinks,
    congrArg (State.setResult command r) hframe⟩

/-- The session end of an event that has changed nothing before it. -/
theorem sessionEnded_clean {s : State} {n : LinkId} {cause : EndCause} (h : LinkOwns s n) (hcause : cause ≠ .none) :
    SessionEnded n cause false false false (s.le n).dropEpoch s (s.endSession n cause {}) := by
  have hended := sessionEnded_endSession (cause := cause) {} h hcause
  simpa only [Bool.and_false] using hended

/-! ## The link timer started (R117, R128) -/

/-- With the retry count at 0 the link timer starts with RTO. -/
theorem timerDuration_of_no_retries {e : LinkEngine} (h : e.retryCount = 0) : e.timerDuration = e.latched.rto := by
  unfold LinkEngine.timerDuration
  rw [h]
  exact Nat.mul_one _

theorem startTimer_of_no_retries {e : LinkEngine} (h : e.retryCount = 0) (mode : TimerMode) :
    e.startTimer mode = { e with timer := some { mode := mode, duration := e.latched.rto, count := 0 } } := by
  unfold LinkEngine.startTimer
  rw [timerDuration_of_no_retries h]

theorem hostOpen_eq (e : LinkEngine) :
    e.hostOpen = { e with
      session := .opening, epoch := e.epoch + 1, latched := e.programmed, nextOrdinal := 0, oldest := 0, expected := 0,
      retryCount := 0, peerCredit := 0, advertised := 0, accepted := 0, drainOrigin := none,
      pending := { e.pending with open_ := true },
      timer := some { mode := .control, duration := e.programmed.rto, count := 0 } } :=
  startTimer_of_no_retries rfl .control

theorem toClosing_eq (e : LinkEngine) :
    e.toClosing = { e with
      session := .closing, drainOrigin := none, retryCount := 0, pending := { e.pending with close := true },
      timer := some { mode := .control, duration := e.latched.rto, count := 0 } } :=
  startTimer_of_no_retries rfl .control

theorem takeCredit_eq_zero_iff (c : Byte) : takeCredit c.toNat = 0 ↔ c = 0 := by
  unfold takeCredit
  constructor
  · intro h
    exact BitVec.eq_of_toNat_eq (show c.toNat = 0 by omega)
  · rintro rfl
    rfl

/-- A link that enters OPEN from OPENING, the query test included (R71, R73, R128). -/
theorem queryTest_establish (e : LinkEngine) (c : Byte) :
    (e.establish (takeCredit c.toNat)).queryTest = { e with
      session := .open_, peerCredit := min 8 c.toNat, retryCount := 0,
      timer := if e.retention = [] ∧ e.submit ≠ [] ∧ c = 0 then
        some { mode := .query, duration := e.latched.rto, count := 0 } else none } := by
  have hcondition : (e.establish (takeCredit c.toNat)).queryCondition = true ↔
      e.retention = [] ∧ e.submit ≠ [] ∧ c = 0 := by
    simp [LinkEngine.queryCondition, LinkEngine.establish, SessionState.sending, takeCredit_eq_zero_iff, and_assoc]
  unfold LinkEngine.queryTest
  by_cases h : e.retention = [] ∧ e.submit ≠ [] ∧ c = 0
  · rw [hcondition.mpr h, if_pos h]
    exact startTimer_of_no_retries rfl .query
  · rw [Bool.eq_false_iff.mpr (mt hcondition.mp h), if_neg h]
    rfl

/-- A DROP made pending keeps the epoch of an earlier one (R54). -/
theorem makeDrop_eq (epoch : Epoch) (e : LinkEngine) :
    e.makeDrop epoch = { e with
      pending := { e.pending with drop := true }
      dropEpoch := if e.pending.drop = true then e.dropEpoch else epoch } := by
  unfold LinkEngine.makeDrop
  split
  · rename_i hdrop
    rw [← hdrop]
  · rfl

/-! ## The drain test (R74) -/

theorem hasDetached_iff (s : State) (n : LinkId) :
    s.hasDetached n = true ↔ ∃ d, (s.desc d).state = .detached ∧ (s.desc d).link = some n := by
  unfold State.hasDetached
  rw [descs_toList_eq_map]
  simp

theorem drainCondition_iff (s : State) (n : LinkId) :
    s.drainCondition n = true ↔ (s.le n).submit = [] ∧ (s.le n).retention = [] ∧ s.hasDetached n = false := by
  simp [State.drainCondition, and_assoc]

theorem drainTest_eq_self {n : LinkId} {s : State} (h : ¬ ((s.le n).session = .draining ∧ s.drainCondition n = true)) :
    s.drainTest n = s := if_neg h

theorem drainTest_host {n : LinkId} {s : State} (hsession : (s.le n).session = .draining)
    (hdrained : s.drainCondition n = true) (horigin : (s.le n).drainOrigin = some .host) :
    s.drainTest n = s.modLE n LinkEngine.toClosing := by
  rw [State.drainTest, if_pos ⟨hsession, hdrained⟩, horigin]

theorem drainTest_peer {n : LinkId} {s : State} (hsession : (s.le n).session = .draining)
    (hdrained : s.drainCondition n = true) (horigin : (s.le n).drainOrigin = some .peer) :
    s.drainTest n = (s.modLE n LinkEngine.makeCloseAck).endSession n .normal { closeAck := true } := by
  rw [State.drainTest, if_pos ⟨hsession, hdrained⟩, horigin]
  rfl

/-- A link that enters DRAINING is drained exactly where it was before. -/
theorem drainCondition_drain (n : LinkId) (origin : DrainOrigin) (s : State) :
    (s.modLE n (LinkEngine.drain origin)).drainCondition n = s.drainCondition n := by
  unfold State.drainCondition
  rw [State.le_modLE_same]
  rfl

end Sys2Proof.Machine
end

section
/-! The family of chapter 4: the resets, the host's session commands and the drain test (R65-R68, R74, R80, R86). -/

namespace Sys2Proof.Machine
open Sys2Proof.Safety

/-! ## The device-wide resets (R86) -/

theorem le_deviceWide (s : State) (n : LinkId) : s.deviceWide.le n = LinkEngine.reset :=
  congrArg Link.le (link_deviceWide s n)

/-- Settles O6: both resets answer the device-wide reset, in which every Link Engine is at its reset value. -/
theorem resetsCloseEverySession : Obligations.ResetsCloseEverySession := by
  intro c s hc
  have hsession : ∀ n, (s.deviceWide.le n).session = .closed ∧ (s.deviceWide.le n).epoch = 0 ∧
      (s.deviceWide.le n).endCause = .none ∧ (s.deviceWide.le n).drainOrigin = none ∧
      (s.deviceWide.le n).programmed = Params.reset ∧
      (s.deviceWide.le n).latched = (s.deviceWide.le n).programmed ∧ (s.deviceWide.le n).nextOrdinal = 0 ∧
      (s.deviceWide.le n).oldest = 0 ∧ (s.deviceWide.le n).expected = 0 ∧ (s.deviceWide.le n).peerCredit = 0 ∧
      (s.deviceWide.le n).advertised = 0 ∧ (s.deviceWide.le n).retryCount = 0 ∧ (s.deviceWide.le n).accepted = 0 ∧
      (s.deviceWide.le n).pending = {} ∧ (s.deviceWide.le n).dropEpoch = 0 ∧ (s.deviceWide.le n).timer = none ∧
      (s.deviceWide.le n).holdTimer = none ∧ (s.deviceWide.le n).submit = [] ∧ (s.deviceWide.le n).retention = [] ∧
      (s.deviceWide.le n).heldCount = 0 ∧ s.deviceWide.linkUp n = false ∧ (s.deviceWide.link n).events = 0 := by
    intro n
    rw [State.linkUp, le_deviceWide, link_deviceWide]
    exact ⟨rfl, rfl, rfl, rfl, rfl, rfl, rfl, rfl, rfl, rfl, rfl, rfl, rfl, rfl, rfl, rfl, rfl, rfl, rfl, rfl, rfl, rfl⟩
  have hdesc := desc_deviceWide s
  rcases hc with rfl | ⟨l, rfl⟩
  · exact ⟨_, rfl, hsession, hdesc, rfl, rfl, rfl, rfl, rfl⟩
  · exact ⟨_, rfl, hsession, hdesc, rfl, rfl, rfl, rfl, rfl⟩

/-! ## OPEN (R65, R66) -/

theorem exec_hostOpen {link : BitVec 4} {n : LinkId} (h : link.toNat = n.val) (s : State) :
    exec (.hostOpen link) s = .next (s.openCommand n) := by
  simp only [exec, execHostOpen, linkOf_eq_some h]

/-- Settles O26: the two branches of the command, the attempt by `hostOpen_eq`. -/
theorem openStartsAnAttempt : Obligations.OpenStartsAnAttempt := by
  intro link n s hlink
  rw [exec_hostOpen hlink]
  unfold State.openCommand
  refine ⟨fun hclosed => ?_, fun hopen => ?_⟩
  · rw [if_pos hclosed, funext hostOpen_eq]
    rfl
  · rw [if_neg hopen]
    rfl

/-! ## The drain test (R74) -/

/-- The drain condition as the statements have it. -/
theorem drainCondition_iff_none_detached (s : State) (n : LinkId) :
    s.drainCondition n = true ↔ (s.le n).submit = [] ∧ (s.le n).retention = [] ∧
      ∀ d, (s.desc d).link = some n → (s.desc d).state ≠ .detached := by
  rw [drainCondition_iff, ← Bool.not_eq_true, hasDetached_iff]
  simp only [not_exists, not_and, imp_not_comm]

/-- The session end of a drain that the peer began, CLOSE-ACK pending, seen from a state that may stand before the drain. -/
theorem sessionEnded_drained {s : State} {n : LinkId} (h : LinkOwns s n) {f : LinkEngine → LinkEngine}
    {session : SessionState} {origin : Option DrainOrigin}
    (hf : f (s.le n) = { (s.le n).makeCloseAck with session := session, drainOrigin := origin }) :
    SessionEnded n .normal false true false (s.le n).dropEpoch s
      ((s.modLE n f).endSession n .normal { closeAck := true }) := by
  have hended := sessionEnded_endSession_modLE (cause := .normal) { closeAck := true } h (by decide) hf
  simpa only [Bool.and_false, Bool.and_true, LinkEngine.makeCloseAck] using hended

/-- Settles O35: the test's one condition, then its origins. -/
theorem drainMovesOnByOrigin : Obligations.DrainMovesOnByOrigin := by
  intro n s holds
  have hexec : exec (.drainComplete n) s = .next (s.drainTest n) := rfl
  have hholds : holds ↔ (s.le n).session = .draining ∧ s.drainCondition n = true := by
    rw [drainCondition_iff_none_detached]
  rw [hexec, hholds]
  refine ⟨fun ⟨hsession, hdrained⟩ horigin => ?_, fun ⟨hsession, hdrained⟩ horigin _ howners => ?_, fun hrest => ?_⟩
  · rw [drainTest_host hsession hdrained horigin, funext toClosing_eq]
  · obtain ⟨-, hlinks, -⟩ := howners
    refine ⟨_, rfl, ?_⟩
    rw [drainTest_peer hsession hdrained horigin]
    exact sessionEnded_drained (hlinks n) rfl
  · rw [drainTest_eq_self hrest]

/-! ## CLOSE (R67) -/

theorem exec_hostClose {link : BitVec 4} {n : LinkId} (h : link.toNat = n.val) (s : State) :
    exec (.hostClose link) s = .next (s.closeCommand n) := by
  simp only [exec, execHostClose, linkOf_eq_some h]

/-- A drain that begins with its condition not holding goes on. -/
theorem drainTest_drain_waits {s : State} {n : LinkId} (origin : DrainOrigin)
    (h : (s.le n).submit ≠ [] ∨ (s.le n).retention ≠ [] ∨ s.hasDetached n = true) :
    (s.modLE n (LinkEngine.drain origin)).drainTest n = s.modLE n (LinkEngine.drain origin) := by
  refine drainTest_eq_self fun hmoves => ?_
  obtain ⟨-, hdrained⟩ := hmoves
  rw [drainCondition_drain, drainCondition_iff] at hdrained
  obtain ⟨hsubmit, hretention, hdetached⟩ := hdrained
  rcases h with h | h | h
  · exact h hsubmit
  · exact h hretention
  · exact Bool.false_ne_true (hdetached.symm.trans h)

/-- Settles O27: the command's branches by session state, the drain test by its condition. -/
theorem closeDrainsOrAbandons : Obligations.CloseDrainsOrAbandons := by
  intro link n s hlink _ howners
  obtain ⟨-, hlinks, -⟩ := howners
  rw [exec_hostClose hlink]
  unfold State.closeCommand
  refine ⟨fun hsession => ?_, fun hsession => ?_, fun hsession => ⟨fun hwaits => ?_, fun hsubmit hretention hdetached => ?_⟩⟩
  · rcases hsession with h | h | h <;> rw [h] <;> rfl
  · rw [hsession]
    exact ⟨_, rfl, sessionEnded_setResult (sessionEnded_clean (hlinks n) (by decide)) 2 .done⟩
  · simp only [hsession]
    rw [drainTest_drain_waits .host hwaits]
    rfl
  · have hdrained : (s.modLE n (LinkEngine.drain .host)).drainCondition n = true := by
      rw [drainCondition_drain, drainCondition_iff]
      exact ⟨hsubmit, hretention, hdetached⟩
    simp only [hsession]
    rw [drainTest_host (by rw [State.le_modLE_same]; rfl) hdrained (by rw [State.le_modLE_same]; rfl), modLE_modLE]
    simp only [toClosing_eq]
    rfl

/-! ## ABORT (R68) -/

theorem exec_hostAbort {link : BitVec 4} {n : LinkId} (h : link.toNat = n.val) (s : State) :
    exec (.hostAbort link) s = .next (s.abortCommand n) := by
  simp only [exec, execHostAbort, linkOf_eq_some h]

/-- Settles O28: the session end of a Link Engine that has first made its DROP pending. -/
theorem abortEndsWithDrop : Obligations.AbortEndsWithDrop := by
  intro link n s hlink _ howners
  obtain ⟨-, hlinks, -⟩ := howners
  rw [exec_hostAbort hlink]
  unfold State.abortCommand
  refine ⟨fun hclosed => ?_, fun hopen => ?_⟩
  · rw [if_pos hclosed]
    rfl
  · rw [if_neg hopen]
    have hended := sessionEnded_endSession_modLE (cause := .aborted) { drop := true } (hlinks n) (by decide)
      (makeDrop_eq (s.le n).epoch (s.le n))
    simp only [Bool.and_false, Bool.and_true] at hended
    exact ⟨_, rfl, sessionEnded_setResult hended 3 .done⟩

end Sys2Proof.Machine
end

section
/-! The family of chapter 4: the control parcels that open, close and drop a session (R54, R65, R70-R76, R78, R80, R128). -/

namespace Sys2Proof.Machine
open Sys2Proof.Safety

/-! ## OPEN parcels before a session (R70, R71) -/

/-- A DROP drawn by a parcel (R54). -/
theorem state_makeDrop_eq (n : LinkId) (epoch : Epoch) (s : State) :
    s.makeDrop n epoch = s.modLE n fun k => { k with
      pending := { k.pending with drop := true }
      dropEpoch := if k.pending.drop = true then k.dropEpoch else epoch } := modLE_congr (makeDrop_eq epoch (s.le n))

/-- A Link Engine changed and an event Set, in one. -/
theorem setEvent_modLE (n : LinkId) (f : LinkEngine → LinkEngine) (e : LinkEvent) (s : State) :
    (s.modLE n f).setEvent n e = s.modLink n fun l => { l with events := l.events ||| e.bit, le := f l.le } :=
  modLink_modLink n _ _ s

/-- The link opens on the peer's proposal (R65, R70). -/
theorem openInClosed_accepted (n : LinkId) (epoch : Epoch) (credit : Nat) (s : State) :
    s.openInClosed n true epoch credit = s.modLink n fun l => { l with
      events := l.events ||| 0x01
      le := { l.le with
        session := .open_, epoch := epoch, latched := l.le.programmed, nextOrdinal := 0, oldest := 0, expected := 0,
        retryCount := 0, peerCredit := credit, advertised := 0, accepted := 0, drainOrigin := none,
        pending := { l.le.pending with grant := true } } } := setEvent_modLE n _ .opened s

theorem openInClosed_refused (n : LinkId) (epoch : Epoch) (credit : Nat) (s : State) :
    s.openInClosed n false epoch credit = s.modLE n fun k => { k with
      pending := { k.pending with drop := true }
      dropEpoch := if k.pending.drop = true then k.dropEpoch else epoch } := state_makeDrop_eq n epoch s

theorem exec_receiveOpen (n : LinkId) (e : Epoch) (r : BitVec 2) (c : Byte) (s : State) :
    exec (.receiveOpen n e r c) s = .next (s.takeOpen n e r.toNat (takeCredit c.toNat)) := rfl

/-- Settles O30: in CLOSED the two answers to the accept enable, in OPENING the three ranks. -/
theorem openParcelBeforeASession : Obligations.OpenParcelBeforeASession := by
  refine ⟨fun n e r c s hclosed => ?_, fun n e r c s hopening => ?_⟩
  · have htaken : s.takeOpen n e r.toNat (takeCredit c.toNat) =
        s.openInClosed n (s.le n).programmed.accept e (takeCredit c.toNat) := by
      unfold State.takeOpen
      rw [hclosed]
    rw [exec_receiveOpen, htaken]
    refine ⟨fun haccept => ?_, fun hrefuse => ?_⟩
    · rw [haccept, openInClosed_accepted]
      rfl
    · rw [hrefuse, openInClosed_refused]
  · have htaken : s.takeOpen n e r.toNat (takeCredit c.toNat) = s.openInOpening n e r.toNat (takeCredit c.toNat) := by
      unfold State.takeOpen
      rw [hopening]
    rw [exec_receiveOpen, htaken]
    unfold State.openInOpening
    refine ⟨fun habove => ?_, fun hequal => ?_, fun hbelow => ?_⟩
    · rw [if_pos habove, setEvent_modLE]
      simp only [queryTest_establish]
      rfl
    · rw [if_neg (by omega), if_pos hequal]
      rfl
    · rw [if_neg (by omega), if_neg (by omega)]

/-! ## OPEN parcels in a live session (R72) -/

theorem peerRestart_eq (n : LinkId) (epoch : Epoch) (credit : Nat) (s : State) :
    s.peerRestart n epoch credit =
      (s.endSession n .peerRestart { grant := (s.le n).latched.accept, drop := !(s.le n).latched.accept }).openInClosed n
        (s.le n).latched.accept epoch credit := rfl

/-- Settles O31: the current epoch draws a GRANT; any other ends the session, and the parcel is taken by the link that is left. -/
theorem openParcelInLiveSession : Obligations.OpenParcelInLiveSession := by
  intro n e r c s hlive
  have htaken : s.takeOpen n e r.toNat (takeCredit c.toNat) =
      if e = (s.le n).epoch then s.modLE n LinkEngine.makeGrant else s.peerRestart n e (takeCredit c.toNat) := by
    unfold State.takeOpen
    rcases hlive with h | h | h <;> rw [h]
  rw [exec_receiveOpen, htaken]
  refine ⟨fun hsame => ?_, fun hother _ howners => ?_⟩
  · rw [if_pos hsame]
    rfl
  · obtain ⟨-, hlinks, -⟩ := howners
    have hended := sessionEnded_endSession (cause := .peerRestart)
      { grant := (s.le n).latched.accept, drop := !(s.le n).latched.accept } (hlinks n) (by decide)
    rw [if_neg hother, peerRestart_eq]
    refine ⟨s.endSession n .peerRestart { grant := (s.le n).latched.accept, drop := !(s.le n).latched.accept }, _, rfl,
      fun haccept => ?_, fun hrefuse => ?_⟩
    · simp only [haccept, Bool.not_true, Bool.and_false, Bool.and_true] at hended ⊢
      refine ⟨hended, ?_⟩
      rw [openInClosed_accepted]
      obtain ⟨hlink, -⟩ := hended
      refine modLink_congr ?_
      rw [hlink]
      rfl
    · simp only [hrefuse, Bool.not_false, Bool.and_false, Bool.and_true] at hended ⊢
      exact ⟨hended, openInClosed_refused n e _ _⟩

/-! ## GRANT (R73) -/

/-- Settles O32: the one state and epoch in which a GRANT is taken. -/
theorem grantCompletesTheProposal : Obligations.GrantCompletesTheProposal := by
  intro n e c s
  have hexec : exec (.receiveGrant n e c) s = .next (s.takeGrant n e (takeCredit c.toNat)) := rfl
  rw [hexec]
  unfold State.takeGrant
  refine ⟨fun hopening hepoch => ?_, fun hother => ?_⟩
  · rw [if_pos ⟨hopening, hepoch⟩, setEvent_modLE]
    simp only [queryTest_establish]
    rfl
  · rw [if_neg (not_and_or.mpr hother)]

/-! ## CLOSE (R75) -/

/-- The peer's CLOSE begins a drain and Sets PEER_CLOSING. -/
theorem peerClosing_eq (n : LinkId) (s : State) :
    (s.modLE n (LinkEngine.drain .peer)).setEvent n .peerClosing =
      (s.setEvent n .peerClosing).modLE n (LinkEngine.drain .peer) :=
  (setEvent_modLE n _ _ s).trans
    (modLink_modLink n (fun l => { l with events := l.events ||| LinkEvent.peerClosing.bit })
      (fun l => { l with le := l.le.drain .peer }) s).symm

/-- Settles O33: the session states one by one; in OPEN the drain test by its condition. -/
theorem closeParcelByState : Obligations.CloseParcelByState := by
  intro n e s
  have hexec : exec (.receiveClose n e) s = .next (s.takeClose n e) := rfl
  rw [hexec]
  unfold State.takeClose
  refine ⟨fun hignored => ?_, fun hepoch hsession => ?_, fun hepoch hsession => ?_⟩
  · by_cases hepoch : e = (s.le n).epoch
    · rw [if_pos hepoch]
      rcases hignored with h | h | h
      · exact absurd hepoch h
      · rw [h]
      · rw [h]
    · rw [if_neg hepoch]
  · rw [if_pos hepoch]
    rcases hsession with h | h <;> rw [h] <;> rfl
  · have hqueues : ((s.setEvent n .peerClosing).le n) = s.le n := State.le_setEvent n n _ s
    have hdetached : (s.setEvent n .peerClosing).hasDetached n = s.hasDetached n := rfl
    rw [if_pos hepoch]
    simp only [hsession, peerClosing_eq]
    refine ⟨fun hwaits => ?_, fun hsubmit hretention hnone _ howners => ?_⟩
    · rw [drainTest_drain_waits .peer (by rw [hqueues, hdetached]; exact hwaits), ← peerClosing_eq, setEvent_modLE]
      rfl
    · obtain ⟨-, hlinks, -⟩ := howners
      have hdrained : ((s.setEvent n .peerClosing).modLE n (LinkEngine.drain .peer)).drainCondition n = true := by
        rw [drainCondition_drain, drainCondition_iff, hqueues, hdetached]
        exact ⟨hsubmit, hretention, hnone⟩
      have hended := sessionEnded_drained (f := fun e => (e.drain .peer).makeCloseAck)
        (linkOwns_setEvent (hlinks n) .peerClosing) rfl
      refine ⟨_, rfl, ?_⟩
      rw [drainTest_peer (by rw [State.le_modLE_same]; rfl) hdrained (by rw [State.le_modLE_same]; rfl),
        modLE_modLE, ← hqueues]
      exact hended

/-! ## CLOSE-ACK and DROP (R76, R78) -/

/-- Settles O34: the one test of each parcel. -/
theorem closeAckAndDropEndTheSession : Obligations.CloseAckAndDropEndTheSession := by
  intro n e s
  have hexecAck : exec (.receiveCloseAck n e) s = .next (s.takeCloseAck n e) := rfl
  have hexecDrop : exec (.receiveDrop n e) s = .next (s.takeDrop n e) := rfl
  rw [hexecAck, hexecDrop]
  unfold State.takeCloseAck State.takeDrop
  refine ⟨fun hsession hepoch _ howners => ?_, fun hother => ?_, fun hsession hepoch _ howners => ?_, fun hother => ?_⟩
  · obtain ⟨-, hlinks, -⟩ := howners
    rw [if_pos ⟨hsession, hepoch⟩]
    exact ⟨_, rfl, sessionEnded_clean (hlinks n) (by decide)⟩
  · rw [if_neg (not_and_or.mpr hother)]
  · obtain ⟨-, hlinks, -⟩ := howners
    rw [if_pos ⟨hsession, hepoch⟩]
    exact ⟨_, rfl, sessionEnded_clean (hlinks n) (by decide)⟩
  · rw [if_neg fun htaken => hother.elim htaken.1 fun hepoch => hepoch htaken.2]

end Sys2Proof.Machine
end

section
/-! The family of chapter 4: LINK RESET, its marks, its releases and what it leaves of the part (R21, R35, R45, R85, R166, R172, R176,
R190). -/

namespace Sys2Proof.Machine
open Sys2Proof.Safety

/-! ## Releases as they stand beside the rest of the part (R15, R18) -/

theorem armed_releaseAs {s : State} {d : DescId} (full : Bool) (h : (s.desc d).state ≠ .free) :
    (s.releaseAs full d).armed = (s.armed || decide (s.watermark ≤ (s.releaseAs full d).freeBlocks.length)) := by
  rw [releaseAs_eq full h, State.armed_reevaluate, armed_rearm, State.freeBlocks_reevaluate, State.freeBlocks_rearm]
  rfl

/-- The free block list never gets shorter over releases, so that the last of them decides whether the condition is armed. -/
theorem armed_releaseList {full : DescId → Bool} (ds : List DescId) : ∀ {s : State}, ds.Nodup →
    (∀ x ∈ ds, (s.desc x).state ≠ .free) →
    (s.releaseList full ds).armed =
      (s.armed || decide (ds ≠ [] ∧ s.watermark ≤ (s.releaseList full ds).freeBlocks.length)) := by
  induction ds with
  | nil => intro s _ _; simp [State.releaseList]
  | cons d ds ih =>
    intro s hnodup hheld
    have hafter := held_after_releaseAs (full := full) hnodup hheld
    have hrest := (List.nodup_cons.mp hnodup).2
    have hgrows : (s.releaseAs (full d) d).freeBlocks.length ≤
        ((s.releaseAs (full d) d).releaseList full ds).freeBlocks.length := by
      rw [freeBlocks_releaseList ds hrest fun y hy => (hafter y hy).2, List.length_append]
      exact Nat.le_add_right _ _
    rw [releaseList_cons, ih hrest fun y hy => (hafter y hy).2, armed_releaseAs _ (hheld d List.mem_cons_self),
      (poolFrame_releaseAs (full d) d s).watermark, Bool.or_assoc]
    refine congrArg (s.armed || ·) ?_
    rw [Bool.eq_iff_iff, Bool.or_eq_true, decide_eq_true_iff, decide_eq_true_iff, decide_eq_true_iff]
    constructor
    · rintro (hfirst | ⟨-, hlast⟩)
      · exact ⟨List.cons_ne_nil d ds, hfirst.trans hgrows⟩
      · exact ⟨List.cons_ne_nil d ds, hlast⟩
    · rintro ⟨-, hlast⟩
      cases ds with
      | nil => exact .inl hlast
      | cons e ds => exact .inr ⟨List.cons_ne_nil e ds, hlast⟩

/-- Releases change the links, the descriptors, the free lists and the armed condition, and nothing else. -/
theorem releaseList_frame (full : DescId → Bool) (ds : List DescId) (s : State) :
    { s.releaseList full ds with
      links := s.links, descs := s.descs, freeDescs := s.freeDescs, freeBlocks := s.freeBlocks, armed := s.armed } = s := by
  have hframe : poolAsIn s (s.releaseList full ds) = s := poolFrame_releaseList ds s
  refine Eq.trans ?_ hframe
  unfold poolAsIn
  rw [← completion_releaseList (full := full) ds s, ← globalEvents_releaseList (full := full) ds s]

/-! ## The steps of a LINK RESET (R85) -/

/-- Link `n` CLOSED and out of the host's queues, its descriptors not yet dealt with (R85, R166, R172, R176). -/
def State.clearedAtReset (n : LinkId) (s : State) : State :=
  { s with
    staging := s.stagingWithout n
    readPointer := s.pointerWithout n
    delivery := s.delivery.filter fun d => !s.ofLink n d
    completion := s.completion.filter fun d => !s.ofLink n d }.modLink n Link.linkReset

/-- The copy on the line marked to be discarded when its transmission ends (R21). -/
def State.markedAtReset (n : LinkId) (s : State) : State :=
  (s.onLineAtEnd n).foldl (fun s d => s.detach .discard d) (s.clearedAtReset n)

/-- The descriptors of link `n` that a LINK RESET frees, in ascending index (R15, R21). -/
def State.freedAtReset (s : State) (n : LinkId) : List DescId :=
  (List.finRange 64).filter fun d =>
    decide ((s.desc d).link = some n ∧ (s.desc d).state ≠ .free ∧ (s.desc d).state ≠ .detached ∧
      ¬ ((s.desc d).state = .retained ∧ s.isOnLine d = true))

theorem nodup_freedAtReset (s : State) (n : LinkId) : (s.freedAtReset n).Nodup := (List.nodup_finRange 64).filter _

theorem mem_freedAtReset (s : State) (n : LinkId) (d : DescId) :
    d ∈ s.freedAtReset n ↔ (s.desc d).link = some n ∧ (s.desc d).state ≠ .free ∧ (s.desc d).state ≠ .detached ∧
      ¬ ((s.desc d).state = .retained ∧ s.isOnLine d = true) := by
  rw [State.freedAtReset, List.mem_filter, decide_eq_true_iff]
  exact and_iff_right (List.mem_finRange d)

/-- The marks change the link, the host's queues and the descriptors alone. -/
theorem markedAtReset_frame (s : State) (n : LinkId) :
    s.markedAtReset n = { s.clearedAtReset n with descs := (s.markedAtReset n).descs } :=
  foldl_modDesc_frame (s.onLineAtEnd n) (s.clearedAtReset n)

theorem link_markedAtReset (s : State) (n m : LinkId) :
    (s.markedAtReset n).link m = if m = n then (s.link n).linkReset else s.link m := by
  rw [markedAtReset_frame]
  exact State.link_modLink n m _ _

section
variable {s : State} {n : LinkId}

theorem mem_onLineAtEnd_iff_retained (h : LinkOwns s n) (d : DescId) :
    d ∈ s.onLineAtEnd n ↔ (s.desc d).link = some n ∧ (s.desc d).state = .retained ∧ s.isOnLine d = true := by
  obtain ⟨-, -, -, howns⟩ := h
  obtain ⟨-, hretention, -⟩ := howns d
  rw [State.onLineAtEnd, List.mem_filter, hretention, and_comm (a := (s.desc d).state = .retained), and_assoc]

theorem desc_markedAtReset (h : LinkOwns s n) (d : DescId) :
    (s.markedAtReset n).desc d =
      if (s.desc d).link = some n ∧ (s.desc d).state = .retained ∧ s.isOnLine d = true then
        { s.desc d with state := .detached, outcome := some .discard }
      else s.desc d := by
  have hmarked : d ∈ s.onLineAtEnd n ∧ (s.desc d).state ≠ .free ↔
      (s.desc d).link = some n ∧ (s.desc d).state = .retained ∧ s.isOnLine d = true := by
    rw [mem_onLineAtEnd_iff_retained h]
    refine and_iff_left_of_imp ?_
    rintro ⟨-, hstate, -⟩
    rw [hstate]
    decide
  exact (desc_foldl_modDesc (s.onLineAtEnd n) (nodup_onLineAtEnd h) d).trans (if_congr hmarked rfl rfl)

theorem blocks_markedAtReset (h : LinkOwns s n) (d : DescId) :
    ((s.markedAtReset n).desc d).blocks = (s.desc d).blocks := by
  rw [desc_markedAtReset h]
  split <;> rfl

/-- After the mark, the descriptors to free are those that are neither DETACHED nor on the line. -/
theorem resetReleases_markedAtReset (h : LinkOwns s n) :
    (s.markedAtReset n).resetReleases n = s.freedAtReset n := by
  refine List.filter_congr fun d _ => ?_
  rw [desc_markedAtReset h, Bool.eq_iff_iff, decide_eq_true_iff]
  by_cases honline : (s.desc d).link = some n ∧ (s.desc d).state = .retained ∧ s.isOnLine d = true
  · obtain ⟨hlink, hstate, hline⟩ := honline
    simp [hlink, hstate, hline]
  · rw [if_neg honline]
    simp only [Bool.and_eq_true, beq_iff_eq, bne_iff_ne, and_assoc]
    constructor
    · rintro ⟨hlink, hfree, hdetached⟩
      exact ⟨hlink, hfree, hdetached, fun hon => honline ⟨hlink, hon⟩⟩
    · rintro ⟨hlink, hfree, hdetached, -⟩
      exact ⟨hlink, hfree, hdetached⟩

theorem resetLink_eq (h : LinkOwns s n) :
    s.resetLink n = (s.markedAtReset n).releaseList (fun _ => true) (s.freedAtReset n) := by
  rw [← resetReleases_markedAtReset h]
  rfl

theorem held_markedAtReset (h : LinkOwns s n) : ∀ d ∈ s.freedAtReset n, ((s.markedAtReset n).desc d).state ≠ .free := by
  intro d hd
  obtain ⟨-, hfree, -⟩ := (mem_freedAtReset s n d).mp hd
  rw [desc_markedAtReset h]
  split
  · exact nofun
  · exact hfree

/-! ## What a LINK RESET leaves (R21, R85) -/

/-- The descriptors, a FREE one naming no link. -/
theorem desc_resetLink (h : LinkOwns s n) (hfree : ∀ d, (s.desc d).link = some n → (s.desc d).state ≠ .free) (d : DescId) :
    (s.resetLink n).desc d =
      if (s.desc d).link = some n then
        if (s.desc d).state = .detached then s.desc d
        else if (s.desc d).state = .retained ∧ s.isOnLine d = true then
          { s.desc d with state := .detached, outcome := some .discard }
        else {}
      else s.desc d := by
  rw [resetLink_eq h, desc_releaseList _ (nodup_freedAtReset s n) (held_markedAtReset h), desc_markedAtReset h]
  simp only [mem_freedAtReset]
  by_cases hlink : (s.desc d).link = some n
  · by_cases hdetached : (s.desc d).state = .detached
    · simp [hlink, hdetached]
    · by_cases honline : (s.desc d).state = .retained ∧ s.isOnLine d = true
      · simp [hlink, honline]
      · simp only [hlink, hfree d hlink, hdetached, honline, releasedDescriptor, ne_eq, not_false_eq_true, and_self,
          if_true, if_false]
  · simp [hlink]

theorem pool_resetLink (h : LinkOwns s n) :
    (s.resetLink n).freeDescs = s.freeDescs ++ s.freedAtReset n ∧
      (s.resetLink n).freeBlocks = s.freeBlocks ++ (s.freedAtReset n).flatMap (fun d => (s.desc d).blocks) ∧
      (s.resetLink n).armed =
        (s.armed || decide (s.freedAtReset n ≠ [] ∧ s.watermark ≤ (s.resetLink n).freeBlocks.length)) := by
  have hnodup := nodup_freedAtReset s n
  have hheld := held_markedAtReset h
  have hpool : (s.markedAtReset n).freeDescs = s.freeDescs ∧ (s.markedAtReset n).freeBlocks = s.freeBlocks ∧
      (s.markedAtReset n).armed = s.armed ∧ (s.markedAtReset n).watermark = s.watermark := by
    rw [markedAtReset_frame]
    exact ⟨rfl, rfl, rfl, rfl⟩
  obtain ⟨hdescs, hblocks, harmed, hwatermark⟩ := hpool
  rw [resetLink_eq h]
  refine ⟨?_, ?_, ?_⟩
  · rw [freeDescs_releaseList _ hnodup hheld, hdescs, List.filter_true]
  · rw [freeBlocks_releaseList _ hnodup hheld, hblocks]
    simp only [blocks_markedAtReset h]
  · rw [armed_releaseList _ hnodup hheld, harmed, hwatermark]

theorem link_resetLink (h : LinkOwns s n) (m : LinkId) :
    (s.resetLink n).link m =
      if m = n then (s.link n).linkReset
      else if s.freedAtReset n ≠ [] ∧ (s.resetLink n).updateDue m = true then (s.link m).makeReceipt
      else s.link m := by
  have hlink := link_releaseList (full := fun _ => true) (s.freedAtReset n) (nodup_freedAtReset s n)
    (held_markedAtReset h) m
  rw [link_markedAtReset, ← resetLink_eq h] at hlink
  by_cases hm : m = n
  · subst hm
    rw [if_pos rfl] at hlink ⊢
    have hclosed : ¬ (s.resetLink m).updateDue m = true := by
      intro hdue
      obtain ⟨hlive, -⟩ := (updateDue_iff _ _).mp hdue
      unfold State.le at hlive
      rw [hlink] at hlive
      split at hlive <;> exact absurd hlive Bool.false_ne_true
    exact hlink.trans (if_neg fun hall => hclosed hall.2)
  · rw [if_neg hm] at hlink ⊢
    exact hlink

/-- What a LINK RESET leaves unchanged of the part, its result word apart. -/
theorem resetLink_frame (h : LinkOwns s n) :
    { s.resetLink n with
      links := s.links, descs := s.descs, freeDescs := s.freeDescs, freeBlocks := s.freeBlocks, armed := s.armed,
      staging := s.staging, readPointer := s.readPointer, delivery := s.delivery, completion := s.completion } = s := by
  have hframe := releaseList_frame (fun _ => true) (s.freedAtReset n) (s.markedAtReset n)
  rw [← resetLink_eq h] at hframe
  calc
    _ = { s.markedAtReset n with
          links := s.links, descs := s.descs, freeDescs := s.freeDescs, freeBlocks := s.freeBlocks, armed := s.armed,
          staging := s.staging, readPointer := s.readPointer, delivery := s.delivery, completion := s.completion } :=
      congrArg (fun u : State =>
        { u with
          links := s.links, descs := s.descs, freeDescs := s.freeDescs, freeBlocks := s.freeBlocks, armed := s.armed,
          staging := s.staging, readPointer := s.readPointer, delivery := s.delivery, completion := s.completion }) hframe
    _ = s := by
      rw [markedAtReset_frame]
      rfl

/-! ## The host's queues (R166, R169, R172, R176) -/

theorem stagingWithout_eq (s : State) (n : LinkId) :
    s.stagingWithout n = if ∃ c, s.staging = some c ∧ c.link = n then none else s.staging := by
  unfold State.stagingWithout
  cases hstaging : s.staging with
  | none => simp
  | some c => by_cases hlink : c.link = n <;> simp [hlink]

theorem pointerWithout_eq (s : State) (n : LinkId) :
    s.pointerWithout n =
      if ∃ d, s.delivery.head? = some d ∧ (s.desc d).link = some n then 0 else s.readPointer := by
  unfold State.pointerWithout State.ofLink
  cases s.delivery with
  | nil => simp
  | cons d rest => by_cases hlink : (s.desc d).link = some n <;> simp [hlink]

theorem filter_ofLink_eq (s : State) (n : LinkId) (ds : List DescId) :
    ds.filter (fun d => !s.ofLink n d) = ds.filter fun d => (s.desc d).link ≠ some n := by
  refine List.filter_congr fun d _ => ?_
  unfold State.ofLink
  by_cases hlink : (s.desc d).link = some n <;> simp [hlink]

theorem queues_resetLink (h : LinkOwns s n) :
    (s.resetLink n).delivery = s.delivery.filter (fun d => (s.desc d).link ≠ some n) ∧
      (s.resetLink n).completion = s.completion.filter (fun d => (s.desc d).link ≠ some n) ∧
      (s.resetLink n).staging = (if ∃ c, s.staging = some c ∧ c.link = n then none else s.staging) ∧
      (s.resetLink n).readPointer =
        if ∃ d, s.delivery.head? = some d ∧ (s.desc d).link = some n then 0 else s.readPointer := by
  have hmarked : (s.markedAtReset n).delivery = s.delivery.filter (fun d => !s.ofLink n d) ∧
      (s.markedAtReset n).completion = s.completion.filter (fun d => !s.ofLink n d) ∧
      (s.markedAtReset n).staging = s.stagingWithout n ∧ (s.markedAtReset n).readPointer = s.pointerWithout n := by
    rw [markedAtReset_frame]
    exact ⟨rfl, rfl, rfl, rfl⟩
  have hframe := releaseList_frame (fun _ => true) (s.freedAtReset n) (s.markedAtReset n)
  rw [← resetLink_eq h] at hframe
  rw [← stagingWithout_eq, ← pointerWithout_eq, ← filter_ofLink_eq, ← filter_ofLink_eq]
  obtain ⟨hdelivery, hcompletion, hstaging, hpointer⟩ := hmarked
  exact ⟨(congrArg State.delivery hframe).trans hdelivery, (congrArg State.completion hframe).trans hcompletion,
    (congrArg State.staging hframe).trans hstaging, (congrArg State.readPointer hframe).trans hpointer⟩

end

/-- Settles O29: the reset's marks and releases, part by part; the result word takes no part in them. -/
theorem linkResetClosesWithoutSessionEnd : Obligations.LinkResetClosesWithoutSessionEnd := by
  intro link n s hlink _ howners freed
  obtain ⟨⟨-, -, hshared⟩, hlinks, -⟩ := howners
  have howns := hlinks n
  have hexec : exec (.linkReset link) s = .next ((s.resetLink n).setResult 4 .done) := by
    simp only [exec, execLinkReset, linkOf_eq_some hlink]
  have hheld : ∀ d, (s.desc d).link = some n → (s.desc d).state ≠ .free := by
    intro d hlinked hfree
    obtain ⟨-, -, -, hnone⟩ := hshared d
    rw [hnone.mpr hfree] at hlinked
    exact nomatch hlinked
  have hreset : (s.resetLink n).link n = (s.link n).linkReset := by rw [link_resetLink howns, if_pos rfl]
  obtain ⟨hdescs, hblocks, harmed⟩ := pool_resetLink howns
  obtain ⟨hdelivery, hcompletion, hstaging, hpointer⟩ := queues_resetLink howns
  refine ⟨_, hexec, rfl, rfl, congrArg Link.le hreset, ?_, desc_resetLink howns hheld, hdelivery, hcompletion, hstaging,
    hpointer, hdescs, hblocks, harmed, fun m hm => ?_, ?_⟩
  · rw [State.le, State.link_setResult, hreset]
    rfl
  · rw [State.link_setResult, link_resetLink howns, if_neg hm]
    rfl
  · exact congrArg (fun u : State => { u with resultCommand := s.resultCommand, resultCode := s.resultCode })
      (resetLink_frame howns)

end Sys2Proof.Machine
end

section
/-! The family of chapter 5: receipts and queries as they are judged, and DATA parcels as they start (R1, R33, R54, R57, R58, R79,
R90, R94, R99, R100, R149). -/

namespace Sys2Proof.Machine
open Sys2Proof.Safety

/-! ## Receipts and queries judged (R79, R99, R100, R149) -/

theorem exec_receiveReceipt (n : LinkId) (epoch : Epoch) (k : Ordinal) (g : BitVec 7) (c : Byte) (s : State) :
    exec (.receiveReceipt n epoch k g c) s = .next (s.takeReceipt n epoch k g (takeCredit c.toNat)) := rfl

theorem exec_receiveQuery (n : LinkId) (epoch : Epoch) (s : State) :
    exec (.receiveQuery n epoch) s = .next (s.takeQuery n epoch) := rfl

/-- In OPEN, DRAINING and CLOSING a receipt is judged by epoch, then by range (R99, R100). -/
theorem takeReceipt_of_live {n : LinkId} {s : State} (hlive : (s.le n).session.live = true) (epoch : Epoch) (k : Ordinal)
    (g : BitVec 7) (credit : Nat) :
    s.takeReceipt n epoch k g credit =
      if epoch = (s.le n).epoch then
        if (k - (s.le n).oldest).toNat ≤ (s.le n).retention.length then s.takeValidReceipt n k g credit
        else s.count n .badRcpt
      else s.count n .dropSession := by
  unfold State.takeReceipt
  rcases (live_iff _).mp hlive with h | h | h <;> rw [h] <;> rfl

/-- In OPEN, DRAINING and CLOSING a query is judged by epoch (R149). -/
theorem takeQuery_of_live {n : LinkId} {s : State} (hlive : (s.le n).session.live = true) (epoch : Epoch) :
    s.takeQuery n epoch =
      if epoch = (s.le n).epoch then s.modLink n Link.makeReceipt else s.count n .dropSession := by
  unfold State.takeQuery
  rcases (live_iff _).mp hlive with h | h | h <;> rw [h] <;> rfl

/-- Settles O55: the session states, and in the live ones the epoch and the range. -/
theorem receiptsAndQueriesJudged : Obligations.ReceiptsAndQueriesJudged := by
  intro n epoch k g c s e live both
  have hlive : live → (s.le n).session.live = true := (live_iff _).mpr
  simp only [both, exec_receiveReceipt, exec_receiveQuery]
  refine ⟨fun hclosed => ?_, fun hopening => ?_, fun h hstale => ?_, fun h hepoch hrange => ?_, fun h hepoch => ?_⟩
  · have hreceipt : s.takeReceipt n epoch k g (takeCredit c.toNat) = s.makeDrop n epoch := by
      rw [State.takeReceipt, hclosed]
    have hquery : s.takeQuery n epoch = s.makeDrop n epoch := by rw [State.takeQuery, hclosed]
    rw [hreceipt, hquery, state_makeDrop_eq]
    exact ⟨rfl, rfl⟩
  · rw [State.takeReceipt, State.takeQuery, hopening]
    exact ⟨rfl, rfl⟩
  · rw [takeReceipt_of_live (hlive h), takeQuery_of_live (hlive h), if_neg hstale, if_neg hstale]
    exact ⟨rfl, rfl⟩
  · rw [takeReceipt_of_live (hlive h), if_pos hepoch, if_neg (Nat.not_le.mpr hrange)]
  · rw [takeQuery_of_live (hlive h), if_pos hepoch]

/-! ## DATA parcels as they start (R1, R33, R90, R94) -/

/-- A payload byte stands at byte i mod 64 of the block at position i / 64 (R1). -/
theorem readPayload_of_block {s : State} {d : DescId} {i : Nat} {b : BlockId}
    (h : (s.desc d).blocks[i / 64]? = some b) : s.readPayload d i = s.mem.read (64 * b.val + i % 64) := by
  have haddress : payloadAddress (s.desc d).blocks i = some (b.val * 64 + i % 64) := by
    unfold payloadAddress Config.blockBytes
    rw [h]
  rw [State.readPayload, haddress, Nat.mul_comm]

/-- The payload rests on the parcel memory and on the descriptor's blocks. -/
theorem readPayload_congr {s t : State} {d : DescId} (hblocks : (t.desc d).blocks = (s.desc d).blocks)
    (hmem : t.mem = s.mem) (i : Nat) : t.readPayload d i = s.readPayload d i := by
  unfold State.readPayload
  rw [hblocks, hmem]

/-- The bytes of a DATA parcel, where its descriptor has the fields of its header (R33, R47, R48, R212). -/
theorem dataBytes_eq {s : State} {d : DescId} {epoch : Epoch} {ordinal : Ordinal} {len : Nat}
    (hepoch : (s.desc d).epoch = some epoch) (hordinal : (s.desc d).ordinal = some ordinal)
    (hlen : (s.desc d).length = some len) (copy : Bool) :
    s.dataBytes d copy =
      [BitVec.ofNat 8 (16 * epoch.toNat + 8 * copy.toNat), BitVec.ofNat 8 ordinal.toNat, BitVec.ofNat 8 len] ++
        (List.range len).map (s.readPayload d) := by
  simp only [State.dataBytes, State.payload, dataHeader, firstByte_eq, hepoch, hordinal, hlen, Option.getD_some,
    BitVec.ofNat_toNat]
  rfl

/-- The flags that a DATA parcel leaves pending (R55, R56). -/
theorem afterChoice_of_data {s : State} {n : LinkId} {c : Choice} (hc : s.choose n = c)
    (hdata : ∃ d, c = .resend d ∨ c = .firstSend d) :
    (s.le n).pending.afterChoice (s.le n).session c =
      { query := (s.le n).pending.query &&
          decide ((s.le n).session = SessionState.open_ ∨ (s.le n).session = SessionState.draining) } := by
  have hsending : (s.le n).session.sending =
      decide ((s.le n).session = SessionState.open_ ∨ (s.le n).session = SessionState.draining) := by
    rw [Bool.eq_iff_iff, decide_eq_true_iff, sending_iff]
  rw [← hsending, ← sentIn_of_choose (s := s) (n := n) (by
    rw [hc]
    obtain ⟨d, rfl | rfl⟩ := hdata <;> simp)]
  obtain ⟨d, rfl | rfl⟩ := hdata <;> rfl

/-- A change of a descriptor that is not FREE writes it. -/
theorem modDesc_eq {s : State} {d : DescId} (h : (s.desc d).state ≠ .free) (f : Descriptor → Descriptor) :
    s.modDesc d f = { s with descs := s.descs.set d (f (s.desc d)) } := if_neg h

/-- The head of the submit queue as its first send leaves it (R90). -/
def Descriptor.numbered (e : LinkEngine) (r : Descriptor) : Descriptor :=
  { r with state := .retained, ordinal := some e.nextOrdinal, epoch := some e.epoch, onLine := some true }

/-- A RETAINED descriptor as a resend leaves it, `resends` being its count before (R94). -/
def Descriptor.resent (resends : Nat) (r : Descriptor) : Descriptor :=
  { r with resends := some (if resends < 15 then resends + 1 else 15), resendPending := some false, onLine := some true }

/-- A first send: the head takes its ordinal and epoch and moves to the retention queue, and its parcel starts (R33, R90). -/
theorem firstSend_eq (n : LinkId) {s : State} {d : DescId} {len : Nat} (hheld : (s.desc d).state ≠ .free)
    (hlen : (s.desc d).length = some len) :
    s.firstSend n d = ((s.setDesc d ((s.desc d).numbered (s.le n))).modLink n fun l =>
        parcelStarted ([BitVec.ofNat 8 (16 * (s.le n).epoch.toNat), BitVec.ofNat 8 (s.le n).nextOrdinal.toNat,
          BitVec.ofNat 8 len] ++ (List.range len).map (s.readPayload d)) (some d)
          { l with le := l.le.moveHead d }).count n .dataSent := by
  have hnumbered := State.desc_setDesc_same d ((s.desc d).numbered (s.le n)) s
  have hpayload : (s.setDesc d ((s.desc d).numbered (s.le n))).readPayload d = s.readPayload d :=
    funext (readPayload_congr ((congrArg Descriptor.blocks hnumbered).trans rfl) rfl)
  have hbytes := dataBytes_eq (congrArg Descriptor.epoch hnumbered) (congrArg Descriptor.ordinal hnumbered)
    ((congrArg Descriptor.length hnumbered).trans hlen) false
  have hsteps : s.firstSend n d = (((s.setDesc d ((s.desc d).numbered (s.le n))).modLE n (LinkEngine.moveHead d)).send n
      ((s.setDesc d ((s.desc d).numbered (s.le n))).dataBytes d false) (some d)).count n .dataSent := by
    unfold State.firstSend
    rw [modDesc_eq hheld]
    rfl
  rw [hsteps, hbytes, hpayload, send_eq, State.modLE, modLink_modLink]
  rfl

/-- A resend: *resends* rises, the mark is taken away, and the parcel starts with the copy flag (R33, R58, R94). -/
theorem resend_eq (n : LinkId) {s : State} {d : DescId} {len resends : Nat} {epoch : Epoch} {ordinal : Ordinal}
    (hheld : (s.desc d).state ≠ .free) (hlen : (s.desc d).length = some len) (hepoch : (s.desc d).epoch = some epoch)
    (hordinal : (s.desc d).ordinal = some ordinal) (hresends : (s.desc d).resends = some resends) :
    s.resend n d = ((s.setDesc d ((s.desc d).resent resends)).modLink n
      (parcelStarted ([BitVec.ofNat 8 (16 * epoch.toNat + 8), BitVec.ofNat 8 ordinal.toNat, BitVec.ofNat 8 len] ++
          (List.range len).map (s.readPayload d)) (some d))).count n .dataResent := by
  have hraised : (s.desc d).resends.map (fun k => min 15 (k + 1)) = some (if resends < 15 then resends + 1 else 15) := by
    rw [hresends, Option.map_some]
    refine congrArg some ?_
    split <;> omega
  unfold State.resend
  rw [modDesc_eq hheld, hraised, dataBytes_eq hepoch hordinal hlen, send_eq]
  rfl

/-- A descriptor written and links changed on either side of it. -/
theorem modLink_setDesc_modLink (n : LinkId) (f g : Link → Link) (d : DescId) (r : Descriptor) (s : State) :
    ((s.modLink n f).setDesc d r).modLink n g = (s.setDesc d r).modLink n fun l => g (f l) :=
  modLink_modLink n f g (s.setDesc d r)

/-- Settles O49: the payload by its addresses, then each kind of DATA parcel as it starts on the flags after the choice. -/
theorem dataParcelsSent : Obligations.DataParcelsSent := by
  intro n s d len hb hlen e r payload flags
  refine ⟨fun i b hi hblock => ?_, fun hc hstate => ?_, fun epoch ordinal resends hc hstate hepoch hordinal hresends => ?_⟩
  · rw [List.getElem?_map, List.getElem?_range hi, Option.map_some, readPayload_of_block hblock]
  · have hheld : (s.desc d).state ≠ .free := hstate ▸ nofun
    rw [exec_transmitChoice_of_choose hb hc, afterChoice_of_data hc ⟨d, .inr rfl⟩, State.start,
      firstSend_eq n (s := s.modLink n (pendingIs flags)) hheld hlen, le_modLink_pendingIs, modLink_setDesc_modLink]
    refine congrArg (fun t : State => Host.Outcome.next (t.count n .dataSent)) ?_
    exact modLink_congr (s := s.setDesc d (r.numbered e)) rfl
  · have hheld : (s.desc d).state ≠ .free := hstate ▸ nofun
    rw [exec_transmitChoice_of_choose hb hc, afterChoice_of_data hc ⟨d, .inl rfl⟩, State.start,
      resend_eq n (s := s.modLink n (pendingIs flags)) hheld hlen hepoch hordinal hresends, modLink_setDesc_modLink]
    rfl

end Sys2Proof.Machine
end

section
/-! Outbound descriptors that complete in one event (R15, R16, R102), and an occurrence counted (R192, R196). -/

namespace Sys2Proof.Machine
open Sys2Proof.Safety

/-! ## Completions of one event (R15, R16, R102) -/

/-- The completion records of one event, with reporting on or off (R16). -/
def completionRecords (reporting : Bool) (ds : List DescId) : List DescId := if reporting then ds else []

theorem nodup_ascending (ds : List DescId) : (ascending ds).Nodup := (List.nodup_finRange 64).filter _

@[simp] theorem mem_ascending (ds : List DescId) (d : DescId) : d ∈ ascending ds ↔ d ∈ ds := by simp [ascending]

theorem ascending_ne_nil_iff (ds : List DescId) : ascending ds ≠ [] ↔ ds ≠ [] :=
  not_congr (by simp only [List.eq_nil_iff_forall_not_mem, mem_ascending])

/-- The part after the releases of a completion, its records not yet queued. -/
def State.completionReleases (reporting : Bool) (ds : List DescId) (s : State) : State :=
  s.releaseList (fun _ => !reporting) (ascending ds)

theorem completeAll_eq (reporting : Bool) (ds : List DescId) (s : State) :
    s.completeAll reporting ds = (s.completionReleases reporting ds).recordList (completionRecords reporting ds) := by
  cases reporting <;> rfl

section
variable {s : State} {ds : List DescId} (reporting : Bool)

theorem held_ascending (hheld : ∀ x ∈ ds, (s.desc x).state ≠ .free) : ∀ x ∈ ascending ds, (s.desc x).state ≠ .free :=
  fun x hx => hheld x ((mem_ascending ds x).mp hx)

theorem desc_completionReleases (hheld : ∀ x ∈ ds, (s.desc x).state ≠ .free) (x : DescId) :
    (s.completionReleases reporting ds).desc x =
      if x ∈ ds then releasedDescriptor (!reporting) (s.desc x) else s.desc x := by
  rw [State.completionReleases, desc_releaseList _ (nodup_ascending ds) (held_ascending hheld)]
  simp only [mem_ascending]

/-- With reporting on the completing descriptors stay off the free list, without blocks. -/
theorem held_completionReleases (hheld : ∀ x ∈ ds, (s.desc x).state ≠ .free) :
    ∀ x ∈ completionRecords reporting ds, ((s.completionReleases reporting ds).desc x).state ≠ .free ∧
      ((s.completionReleases reporting ds).desc x).blocks = [] := by
  intro x hx
  cases reporting with
  | false => exact absurd hx List.not_mem_nil
  | true =>
    have hmem : x ∈ ds := hx
    rw [desc_completionReleases true hheld, if_pos hmem]
    exact ⟨hheld x hmem, rfl⟩

theorem nodup_completionRecords (hnodup : ds.Nodup) : (completionRecords reporting ds).Nodup := by
  cases reporting with
  | false => exact List.nodup_nil
  | true => exact hnodup

theorem desc_completeAll (hnodup : ds.Nodup) (hheld : ∀ x ∈ ds, (s.desc x).state ≠ .free) (x : DescId) :
    (s.completeAll reporting ds).desc x =
      if x ∈ ds then
        if reporting = true then { s.desc x with state := .completed, blocks := [], onLine := some false } else {}
      else s.desc x := by
  rw [completeAll_eq, desc_recordList _ (nodup_completionRecords reporting hnodup)
    (fun y hy => (held_completionReleases reporting hheld y hy).1), desc_completionReleases reporting hheld]
  by_cases hx : x ∈ ds <;> cases reporting <;> simp [hx, completionRecords, releasedDescriptor]

theorem freeDescs_completeAll (hheld : ∀ x ∈ ds, (s.desc x).state ≠ .free) :
    (s.completeAll reporting ds).freeDescs = s.freeDescs ++ (ascending ds).filter fun _ => !reporting := by
  obtain ⟨-, hkept, -⟩ := recordList_pool (completionRecords reporting ds) (s.completionReleases reporting ds)
  rw [completeAll_eq, hkept, State.completionReleases,
    freeDescs_releaseList _ (nodup_ascending ds) (held_ascending hheld)]

theorem freeBlocks_completeAll (hheld : ∀ x ∈ ds, (s.desc x).state ≠ .free) :
    (s.completeAll reporting ds).freeBlocks = s.freeBlocks ++ (ascending ds).flatMap fun x => (s.desc x).blocks := by
  obtain ⟨-, -, hkept, -⟩ := recordList_pool (completionRecords reporting ds) (s.completionReleases reporting ds)
  rw [completeAll_eq, hkept, State.completionReleases,
    freeBlocks_releaseList _ (nodup_ascending ds) (held_ascending hheld)]

theorem completion_completeAll (hnodup : ds.Nodup) (hheld : ∀ x ∈ ds, (s.desc x).state ≠ .free) :
    (s.completeAll reporting ds).completion = s.completion ++ completionRecords reporting ds ∧
      (s.completeAll reporting ds).globalEvents =
        if completionRecords reporting ds = [] then s.globalEvents else s.globalEvents ||| 0x02 := by
  have hrecorded := completion_recordList _ (nodup_completionRecords reporting hnodup)
    (fun y hy => (held_completionReleases reporting hheld y hy).1)
  rw [State.completionReleases, completion_releaseList, globalEvents_releaseList] at hrecorded
  rw [completeAll_eq]
  exact hrecorded

theorem watermarkOk_completeAll (hheld : ∀ x ∈ ds, (s.desc x).state ≠ .free) (h : WatermarkOk s) :
    WatermarkOk (s.completeAll reporting ds) := by
  obtain ⟨-, -, hblocks, harmed⟩ :=
    recordList_pool (completionRecords reporting ds) (s.completionReleases reporting ds)
  rw [completeAll_eq]
  exact WatermarkOk.congr (watermarkOk_releaseList _ (nodup_ascending ds) (held_ascending hheld) h) harmed
    (poolFrame_recordList _ _).watermark hblocks

theorem poolFrame_completeAll (ds : List DescId) (s : State) : PoolFrame s (s.completeAll reporting ds) := by
  rw [completeAll_eq]
  exact (poolFrame_releaseList _ _).trans (poolFrame_recordList _ _)

/-- The completions decide together which links have a window update due (R17). -/
theorem link_completeAll (hnodup : ds.Nodup) (hheld : ∀ x ∈ ds, (s.desc x).state ≠ .free) (m : LinkId) :
    (s.completeAll reporting ds).link m =
      if ds ≠ [] ∧ (s.completeAll reporting ds).updateDue m = true then (s.link m).makeReceipt else s.link m := by
  obtain ⟨hlinks, hdescs, hblocks, -⟩ :=
    recordList_pool (completionRecords reporting ds) (s.completionReleases reporting ds)
  have hlink : ∀ k, ((s.completionReleases reporting ds).recordList (completionRecords reporting ds)).link k =
      (s.completionReleases reporting ds).link k := fun k => by unfold State.link; rw [hlinks]
  have hrecords := held_completionReleases reporting hheld
  have hused := used_recordList _ (nodup_completionRecords reporting hnodup) (fun x hx => (hrecords x hx).1)
    (fun x hx => (hrecords x hx).2)
  have hdue := updateDue_congr (n := m) (fun k => congrArg Link.le (hlink k)) (fun k => congrArg Link.guarantee (hlink k))
    hdescs hblocks hused
  rw [completeAll_eq, hlink, hdue, State.completionReleases,
    link_releaseList _ (nodup_ascending ds) (held_ascending hheld)]
  simp only [ascending_ne_nil_iff]

end

/-! ## An occurrence counted (R192, R196) -/

/-- A link with one more occurrence counted. -/
def Link.counted (c : Counter) (l : Link) : Link :=
  { l with
    counters := l.counters.set c.number (min 65535 (l.counters.get c.number + 1))
    half := l.half || decide (l.counters.get c.number = 32767) }

theorem count_eq (n : LinkId) (c : Counter) (s : State) :
    s.count n c = { s.modLink n (Link.counted c) with
      globalEvents := s.globalEvents ||| (if (s.link n).counters.get c.number = 32767 then 0x08 else 0) } := by
  unfold State.count State.counter
  by_cases h : (s.link n).counters.get c.number = 32767
  · have hlinks : (s.bump n c).setHalf n = s.modLink n (Link.counted c) := by
      refine (modLink_modLink n _ _ s).trans (modLink_congr ?_)
      simp [Link.counted, h]
    rw [if_pos h, if_pos h, hlinks]
    rfl
  · have hlinks : s.bump n c = s.modLink n (Link.counted c) := modLink_congr (by simp [Link.counted, h])
    have hevents : s.globalEvents ||| (0 : BitVec 6) = s.globalEvents := BitVec.or_zero
    rw [if_neg h, if_neg h, hlinks, hevents]
    rfl

theorem get_counters_counted (c : Counter) (l : Link) (i : Fin 14) :
    (l.counted c).counters.get i = if i = c.number then min 65535 (l.counters.get c.number + 1) else l.counters.get i := by
  simp only [Link.counted, Vector.get_eq_getElem, Vector.getElem_set, Fin.ext_iff, eq_comm]

/-- An occurrence counted between two changes of the Link Engine. -/
theorem modLE_count_modLE (n : LinkId) (c : Counter) (f g : LinkEngine → LinkEngine) (s : State) :
    ((s.modLE n f).count n c).modLE n g = { s.modLink n (fun l => { l.counted c with le := g (f l.le) }) with
      globalEvents := s.globalEvents ||| (if (s.link n).counters.get c.number = 32767 then 0x08 else 0) } := by
  have hlink : (s.modLE n f).link n = { s.link n with le := f (s.le n) } := State.link_modLink_same n _ s
  have hlinks : ((s.modLE n f).modLink n (Link.counted c)).modLE n g =
      s.modLink n fun l => { l.counted c with le := g (f l.le) } := by
    unfold State.modLE
    rw [modLink_modLink, modLink_modLink]
    rfl
  rw [count_eq, hlink, ← hlinks]
  rfl

/-! ## A window update due (R17, R152) -/

/-- A window update being due on a link rests, of its Link Engine, on its session, its window and what it last advertised (R17,
R152). -/
theorem updateDue_congr_of_engine {s t : State} {n : LinkId} (hsession : (t.le n).session = (s.le n).session)
    (hadvertised : (t.le n).advertised = (s.le n).advertised) (hwindow : (t.le n).window = (s.le n).window)
    (hguarantee : ∀ k, (t.link k).guarantee = (s.link k).guarantee) (hdescs : t.freeDescs = s.freeDescs)
    (hblocks : t.freeBlocks = s.freeBlocks) (hused : ∀ k, t.used k = s.used k) : t.updateDue n = s.updateDue n := by
  simp only [State.updateDue, State.credit, LinkEngine.heldCount, State.grantableBlocks, State.grantableDescs,
    othersReserve_eq_sum, hsession, hadvertised, hwindow, hguarantee, hdescs, hblocks, hused]

end Sys2Proof.Machine
end

section
/-! The family of chapter 5: a valid receipt, part by part (R98, R101-R106, R125, R128). -/

namespace Sys2Proof.Machine
open Sys2Proof.Safety

/-! ## The descriptors that a receipt reports (R101-R104) -/

/-- The descriptors below *cumulative*: the `d` oldest of the retention queue (R101). -/
def State.leavingAtReceipt (s : State) (n : LinkId) (d : Nat) : List DescId := (s.le n).retention.take d

/-- Those of them that complete at once, no copy of them being on the line (R102). -/
def State.completedAtReceipt (s : State) (n : LinkId) (d : Nat) : List DescId :=
  (s.leavingAtReceipt n d).filter fun x => !s.isOnLine x

theorem mem_reported (g : BitVec 7) (e : LinkEngine) (x : DescId) :
    x ∈ e.reported g ↔ ((List.range 7).any fun i => g.getLsbD i && e.retention[i + 1]? == some x) = true := by
  simp only [LinkEngine.reported, List.mem_filterMap, List.any_eq_true, Bool.and_eq_true, beq_iff_eq, Option.ite_none_right_eq_some]

theorem nodup_reported (g : BitVec 7) {e : LinkEngine} (h : e.retention.Nodup) : (e.reported g).Nodup := by
  refine List.Nodup.filterMap (fun i j x hi hj => ?_) List.nodup_range
  simp only [Option.mem_def, Option.ite_none_right_eq_some] at hi hj
  obtain ⟨-, hi⟩ := hi
  obtain ⟨-, hj⟩ := hj
  have hlt : i + 1 < e.retention.length := (List.getElem?_eq_some_iff.mp hi).1
  exact Nat.succ.inj ((List.getElem?_inj hlt h).mp (hi.trans hj.symm))

theorem reported_subset_retention (g : BitVec 7) (e : LinkEngine) : e.reported g ⊆ e.retention := by
  intro x hx
  simp only [LinkEngine.reported, List.mem_filterMap, Option.ite_none_right_eq_some] at hx
  obtain ⟨i, -, -, hi⟩ := hx
  exact List.mem_of_getElem? hi

section
variable {s : State} {n : LinkId}

theorem state_of_retention (h : LinkOwns s n) {x : DescId} (hx : x ∈ (s.le n).retention) : (s.desc x).state = .retained := by
  obtain ⟨-, -, -, howns⟩ := h
  obtain ⟨-, hretention, -⟩ := howns x
  exact (hretention.mp hx).1

theorem nodup_leavingAtReceipt (h : LinkOwns s n) (d : Nat) : (s.leavingAtReceipt n d).Nodup := by
  obtain ⟨-, hretention, -⟩ := h
  exact hretention.sublist (List.take_sublist d _)

theorem state_of_leavingAtReceipt (h : LinkOwns s n) {d : Nat} {x : DescId} (hx : x ∈ s.leavingAtReceipt n d) :
    (s.desc x).state = .retained := state_of_retention h (List.mem_of_mem_take hx)

theorem nodup_completedAtReceipt (h : LinkOwns s n) (d : Nat) : (s.completedAtReceipt n d).Nodup :=
  (nodup_leavingAtReceipt h d).filter _

/-! ## The acknowledged descriptors leave (R101-R103) -/

/-- A Link Engine whose OU is `k` and whose retention queue starts `d` later (R101). -/
def LinkEngine.movedTo (k : Ordinal) (d : Nat) (e : LinkEngine) : LinkEngine :=
  { e with oldest := k, retention := e.retention.drop d }

/-- The leaving descriptors marked with their outcomes, the queue moved on, nothing released yet. -/
def State.markedAtReceipt (n : LinkId) (k : Ordinal) (d : Nat) (s : State) : State :=
  ((s.completedAtReceipt n d).foldl (fun s x => s.setOutcome .delivered x)
    (((s.leavingAtReceipt n d).filter s.isOnLine).foldl (fun s x => s.detach .delivered x) s)).modLE n
      (LinkEngine.movedTo k d)

theorem acknowledge_eq (n : LinkId) (k : Ordinal) (d : Nat) (s : State) :
    s.acknowledge n k d =
      (s.markedAtReceipt n k d).completeAll (s.le n).latched.reporting (s.completedAtReceipt n d) := rfl

/-- The marks change nothing but the Link Engine and the descriptors. -/
theorem markedAtReceipt_frame (n : LinkId) (k : Ordinal) (d : Nat) (s : State) :
    s.markedAtReceipt n k d =
      { s.modLE n (LinkEngine.movedTo k d) with descs := (s.markedAtReceipt n k d).descs } := by
  unfold State.markedAtReceipt State.detach State.setOutcome
  rw [foldl_modDesc_frame (s.completedAtReceipt n d)]
  rw [foldl_modDesc_frame ((s.leavingAtReceipt n d).filter s.isOnLine)]
  rfl

theorem link_markedAtReceipt (n : LinkId) (k : Ordinal) (d : Nat) (s : State) (m : LinkId) :
    (s.markedAtReceipt n k d).link m =
      if m = n then { s.link n with le := (s.le n).movedTo k d } else s.link m := by
  rw [markedAtReceipt_frame]
  exact State.link_modLink n m (fun l => { l with le := l.le.movedTo k d }) s

theorem desc_markedAtReceipt (h : LinkOwns s n) (k : Ordinal) (d : Nat) (x : DescId) :
    (s.markedAtReceipt n k d).desc x =
      if x ∈ s.leavingAtReceipt n d then
        if s.isOnLine x = true then { s.desc x with state := .detached, outcome := some .delivered }
        else { s.desc x with outcome := some .delivered }
      else s.desc x := by
  have hleaving := nodup_leavingAtReceipt h d
  unfold State.markedAtReceipt State.detach State.setOutcome
  rw [State.desc_modLE, desc_foldl_modDesc _ (nodup_completedAtReceipt h d), desc_foldl_modDesc _ (hleaving.filter _)]
  by_cases hx : x ∈ s.leavingAtReceipt n d
  · have hstate := state_of_leavingAtReceipt h hx
    by_cases hline : s.isOnLine x = true <;> simp [State.completedAtReceipt, hx, hline, hstate]
  · simp [State.completedAtReceipt, hx]

theorem held_markedAtReceipt (h : LinkOwns s n) (k : Ordinal) (d : Nat) :
    ∀ x ∈ s.completedAtReceipt n d, ((s.markedAtReceipt n k d).desc x).state ≠ .free := by
  intro x hx
  rw [State.completedAtReceipt, List.mem_filter, Bool.not_eq_true'] at hx
  obtain ⟨hleaving, hoff⟩ := hx
  rw [desc_markedAtReceipt h, if_pos hleaving, if_neg (Bool.eq_false_iff.mp hoff)]
  exact state_of_leavingAtReceipt h hleaving ▸ nofun

theorem blocks_markedAtReceipt (h : LinkOwns s n) (k : Ordinal) (d : Nat) (x : DescId) :
    ((s.markedAtReceipt n k d).desc x).blocks = (s.desc x).blocks := by
  rw [desc_markedAtReceipt h]
  split_ifs <;> rfl

theorem desc_acknowledge (h : LinkOwns s n) (k : Ordinal) (d : Nat) (x : DescId) :
    (s.acknowledge n k d).desc x =
      if x ∈ s.leavingAtReceipt n d then
        if s.isOnLine x = true then { s.desc x with state := .detached, outcome := some .delivered }
        else if (s.le n).latched.reporting = true then
          { s.desc x with state := .completed, outcome := some .delivered, blocks := [], onLine := some false }
        else {}
      else s.desc x := by
  rw [acknowledge_eq, desc_completeAll _ (nodup_completedAtReceipt h d) (held_markedAtReceipt h k d),
    desc_markedAtReceipt h]
  by_cases hx : x ∈ s.leavingAtReceipt n d
  · by_cases hline : s.isOnLine x = true <;> simp [State.completedAtReceipt, hx, hline]
  · simp [State.completedAtReceipt, hx]

theorem link_acknowledge (h : LinkOwns s n) (k : Ordinal) (d : Nat) (m : LinkId) :
    (s.acknowledge n k d).link m =
      if s.completedAtReceipt n d ≠ [] ∧ (s.acknowledge n k d).updateDue m = true then
        ((s.markedAtReceipt n k d).link m).makeReceipt
      else (s.markedAtReceipt n k d).link m :=
  link_completeAll _ (nodup_completedAtReceipt h d) (held_markedAtReceipt h k d) m

/-- The acknowledging link: its queue moved on, its RECEIPT flag Set where a release has made a window update due (R17). -/
theorem link_acknowledge_same (h : LinkOwns s n) (k : Ordinal) (d : Nat) :
    (s.acknowledge n k d).link n = { s.link n with
      le := { (s.le n).movedTo k d with
        pending := { (s.le n).pending with
          receipt := (s.le n).pending.receipt ||
            (decide (s.completedAtReceipt n d ≠ []) && (s.acknowledge n k d).updateDue n) } } } := by
  rw [link_acknowledge h, link_markedAtReceipt, if_pos rfl]
  by_cases hdue : s.completedAtReceipt n d ≠ [] ∧ (s.acknowledge n k d).updateDue n = true
  · obtain ⟨hsome, hupdate⟩ := hdue
    rw [if_pos ⟨hsome, hupdate⟩, hupdate, decide_eq_true hsome, Bool.and_true, Bool.or_true]
    rfl
  · have hnone : (decide (s.completedAtReceipt n d ≠ []) && (s.acknowledge n k d).updateDue n) = false := by
      rw [Bool.eq_false_iff, Ne, Bool.and_eq_true, decide_eq_true_iff]
      exact hdue
    rw [if_neg hdue, hnone, Bool.or_false]
    rfl

theorem pool_acknowledge (h : LinkOwns s n) (k : Ordinal) (d : Nat) :
    (s.acknowledge n k d).freeDescs = s.freeDescs ++
        (ascending (s.completedAtReceipt n d)).filter (fun _ => !(s.le n).latched.reporting) ∧
      (s.acknowledge n k d).freeBlocks = s.freeBlocks ++
        (ascending (s.completedAtReceipt n d)).flatMap (fun x => (s.desc x).blocks) ∧
      (WatermarkOk s → WatermarkOk (s.acknowledge n k d)) := by
  have hheld := held_markedAtReceipt h k d
  have hmarked : (s.markedAtReceipt n k d).freeDescs = s.freeDescs ∧
      (s.markedAtReceipt n k d).freeBlocks = s.freeBlocks ∧ (WatermarkOk s → WatermarkOk (s.markedAtReceipt n k d)) := by
    rw [markedAtReceipt_frame]
    exact ⟨rfl, rfl, id⟩
  obtain ⟨hdescs, hblocks, hwatermark⟩ := hmarked
  rw [acknowledge_eq]
  refine ⟨?_, ?_, fun hw => watermarkOk_completeAll _ hheld (hwatermark hw)⟩
  · rw [freeDescs_completeAll _ hheld, hdescs]
  · rw [freeBlocks_completeAll _ hheld, hblocks]
    simp only [blocks_markedAtReceipt h]

theorem completion_acknowledge (h : LinkOwns s n) (k : Ordinal) (d : Nat) :
    (s.acknowledge n k d).completion =
        s.completion ++ completionRecords (s.le n).latched.reporting (s.completedAtReceipt n d) ∧
      (s.acknowledge n k d).globalEvents =
        if completionRecords (s.le n).latched.reporting (s.completedAtReceipt n d) = [] then s.globalEvents
        else s.globalEvents ||| 0x02 := by
  have hrecorded := completion_completeAll (s.le n).latched.reporting (nodup_completedAtReceipt h d)
    (held_markedAtReceipt h k d)
  have hmarked : (s.markedAtReceipt n k d).completion = s.completion ∧
      (s.markedAtReceipt n k d).globalEvents = s.globalEvents := by
    rw [markedAtReceipt_frame]
    exact ⟨rfl, rfl⟩
  obtain ⟨hcompletion, hevents⟩ := hmarked
  rw [hcompletion, hevents] at hrecorded
  exact hrecorded

theorem poolFrame_acknowledge (n : LinkId) (k : Ordinal) (d : Nat) (s : State) : PoolFrame s (s.acknowledge n k d) := by
  have hmarked : PoolFrame s (s.markedAtReceipt n k d) := by
    rw [markedAtReceipt_frame]
    rfl
  exact hmarked.trans (poolFrame_completeAll _ _ _)

end

/-! ## The link timer (R125, R126, R128, R131) -/

/-- The table of R125, the retry count being 0. -/
theorem receiptTimer_eq {e : LinkEngine} (h : e.retryCount = 0) (advanced : Bool) :
    e.receiptTimer advanced = { e with
      timer :=
        if ¬ (e.session = .open_ ∨ e.session = .draining) then e.timer
        else if e.retention ≠ [] then
          if advanced = true then some { mode := .resend, duration := e.latched.rto, count := 0 }
          else e.timer.map LinkTimer.holdOff
        else if e.submit ≠ [] ∧ e.peerCredit = 0 then
          if e.timerMode = some .query then e.timer.map LinkTimer.holdOff
          else some { mode := .query, duration := e.latched.rto, count := 0 }
        else none } := by
  have hquery : e.session = .open_ ∨ e.session = .draining → e.retention = [] →
      (e.queryCondition = true ↔ e.submit ≠ [] ∧ e.peerCredit = 0) := fun hsending hempty => by
    simp [LinkEngine.queryCondition, (sending_iff _).mpr hsending, hempty]
  unfold LinkEngine.receiptTimer
  by_cases hsending : e.session = .open_ ∨ e.session = .draining
  · rw [if_pos ((sending_iff _).mpr hsending), if_neg (not_not_intro hsending)]
    by_cases hempty : e.retention = []
    · rw [if_pos (List.isEmpty_iff.mpr hempty), if_neg (not_not_intro hempty)]
      simp only [hquery hsending hempty, startTimer_of_no_retries h]
      split_ifs <;> rfl
    · rw [if_neg (mt List.isEmpty_iff.mp hempty), if_pos hempty]
      simp only [startTimer_of_no_retries h]
      split_ifs <;> rfl
  · rw [if_neg (mt (sending_iff _).mp hsending), if_pos hsending]

/-! ## The receipt's other parts (R104-R106) -/

/-- A link as parts 5 and 6 of a receipt leave it: credit, retry count, count and link timer (R105, R106, R125). -/
def Link.credited (advanced : Bool) (credit : Nat) (l : Link) : Link :=
  { l.counted .rcptTaken with le := { l.le with peerCredit := credit, retryCount := 0 }.receiptTimer advanced }

/-- The part after parts 3 and 4 of a receipt (R101-R104). -/
def State.reportedSeen (n : LinkId) (k : Ordinal) (d : Nat) (g : BitVec 7) (s : State) : State :=
  (((s.acknowledge n k d).le n).reported g).foldl (fun t x => t.markSeen x) (s.acknowledge n k d)

/-- The part after a valid receipt, the drain test still to come (R98). -/
def State.beforeDrainTest (n : LinkId) (k : Ordinal) (d : Nat) (g : BitVec 7) (credit : Nat) (s : State) : State :=
  (((s.reportedSeen n k d g).modLE n fun e => { e with peerCredit := credit, retryCount := 0 }).count n .rcptTaken).modLE n
    (LinkEngine.receiptTimer (0 < d))

theorem takeValidReceipt_eq (n : LinkId) (k : Ordinal) (g : BitVec 7) (credit : Nat) (s : State) :
    s.takeValidReceipt n k g credit =
      (s.beforeDrainTest n k (k - (s.le n).oldest).toNat g credit).drainTest n := rfl

/-- Parts 4 to 6 change the link, the descriptors and COUNTER_HALF alone. -/
theorem beforeDrainTest_eq (n : LinkId) (k : Ordinal) (d : Nat) (g : BitVec 7) (credit : Nat) (s : State) :
    s.beforeDrainTest n k d g credit = { (s.acknowledge n k d).modLink n (Link.credited (0 < d) credit) with
      descs := (s.reportedSeen n k d g).descs
      globalEvents := (s.acknowledge n k d).globalEvents |||
        (if ((s.acknowledge n k d).link n).counters.get 4 = 32767 then 0x08 else 0) } := by
  have hseen : s.reportedSeen n k d g = { s.acknowledge n k d with descs := (s.reportedSeen n k d g).descs } :=
    foldl_modDesc_frame _ _
  rw [State.beforeDrainTest, modLE_count_modLE, hseen]
  rfl

section
variable {s : State} {n : LinkId}

theorem link_beforeDrainTest (n : LinkId) (k : Ordinal) (d : Nat) (g : BitVec 7) (credit : Nat) (s : State) (m : LinkId) :
    (s.beforeDrainTest n k d g credit).link m =
      if m = n then ((s.acknowledge n k d).link n).credited (0 < d) credit else (s.acknowledge n k d).link m := by
  rw [beforeDrainTest_eq]
  exact State.link_modLink n m (Link.credited (0 < d) credit) (s.acknowledge n k d)

theorem retention_acknowledge (h : LinkOwns s n) (k : Ordinal) (d : Nat) :
    ((s.acknowledge n k d).le n).retention = (s.le n).retention.drop d :=
  congrArg (fun l : Link => l.le.retention) (link_acknowledge_same h k d)

/-- The descriptors that the gap map reports held are marked *seen* (R104). -/
theorem desc_reportedSeen (h : LinkOwns s n) (k : Ordinal) (d : Nat) (g : BitVec 7) (x : DescId) :
    (s.reportedSeen n k d g).desc x =
      if x ∈ ((s.acknowledge n k d).le n).reported g ∧ ((s.acknowledge n k d).desc x).state ≠ .free then
        { (s.acknowledge n k d).desc x with seen := some true, resendPending := some false }
      else (s.acknowledge n k d).desc x := by
  have hretention := retention_acknowledge h k d
  obtain ⟨-, hnodup, -⟩ := h
  have hkept : ((s.acknowledge n k d).le n).retention.Nodup :=
    hretention ▸ hnodup.sublist (List.drop_sublist d _)
  exact desc_foldl_modDesc _ (nodup_reported g hkept) x

theorem desc_beforeDrainTest_eq (n : LinkId) (k : Ordinal) (d : Nat) (g : BitVec 7) (credit : Nat) (s : State) (x : DescId) :
    (s.beforeDrainTest n k d g credit).desc x = (s.reportedSeen n k d g).desc x := by
  rw [beforeDrainTest_eq]
  rfl

theorem desc_beforeDrainTest (h : LinkOwns s n) (k : Ordinal) (d : Nat) (g : BitVec 7) (credit : Nat) (x : DescId) :
    (s.beforeDrainTest n k d g credit).desc x =
      if x ∈ s.leavingAtReceipt n d then
        if s.isOnLine x = true then { s.desc x with state := .detached, outcome := some .delivered }
        else if (s.le n).latched.reporting = true then
          { s.desc x with state := .completed, outcome := some .delivered, blocks := [], onLine := some false }
        else {}
      else if ((List.range 7).any fun i => g.getLsbD i && ((s.le n).retention.drop d)[i + 1]? == some x) = true then
        { s.desc x with seen := some true, resendPending := some false }
      else s.desc x := by
  have hretention := retention_acknowledge h k d
  have hreported : x ∈ ((s.acknowledge n k d).le n).reported g ↔
      ((List.range 7).any fun i => g.getLsbD i && ((s.le n).retention.drop d)[i + 1]? == some x) = true := by
    rw [mem_reported, hretention]
  have hstays : x ∈ ((s.acknowledge n k d).le n).reported g → x ∈ (s.le n).retention.drop d := fun hx =>
    hretention ▸ reported_subset_retention g _ hx
  rw [desc_beforeDrainTest_eq, desc_reportedSeen h, desc_acknowledge h]
  by_cases hx : x ∈ s.leavingAtReceipt n d
  · obtain ⟨-, hnodup, -⟩ := h
    have hgone : x ∉ ((s.acknowledge n k d).le n).reported g := fun hr =>
      List.disjoint_take_drop hnodup (le_refl d) hx (hstays hr)
    rw [if_neg fun hr => hgone hr.1]
    simp only [if_pos hx]
  · simp only [if_neg hx, ← hreported]
    refine if_congr (and_iff_left_of_imp fun hr => ?_) rfl rfl
    exact state_of_retention h (List.mem_of_mem_drop (hstays hr)) ▸ nofun

/-- A descriptor that is not acknowledged keeps its place. -/
theorem desc_beforeDrainTest_of_stays (h : LinkOwns s n) (k : Ordinal) {d : Nat} (g : BitVec 7) (credit : Nat) {x : DescId}
    (hx : x ∉ s.leavingAtReceipt n d) :
    ((s.beforeDrainTest n k d g credit).desc x).state = (s.desc x).state ∧
      ((s.beforeDrainTest n k d g credit).desc x).blocks = (s.desc x).blocks := by
  rw [desc_beforeDrainTest h, if_neg hx]
  split <;> exact ⟨rfl, rfl⟩

/-! ## The pool and the other links (R15-R18) -/

theorem pool_beforeDrainTest (h : LinkOwns s n) (k : Ordinal) (d : Nat) (g : BitVec 7) (credit : Nat) :
    (s.beforeDrainTest n k d g credit).freeDescs = s.freeDescs ++
        (ascending (s.completedAtReceipt n d)).filter (fun _ => !(s.le n).latched.reporting) ∧
      (s.beforeDrainTest n k d g credit).freeBlocks = s.freeBlocks ++
        (ascending (s.completedAtReceipt n d)).flatMap (fun x => (s.desc x).blocks) ∧
      (WatermarkOk s → WatermarkOk (s.beforeDrainTest n k d g credit)) := by
  rw [beforeDrainTest_eq]
  exact pool_acknowledge h k d

theorem used_beforeDrainTest (h : LinkOwns s n) (k : Ordinal) (d : Nat) (g : BitVec 7) (credit : Nat) (m : LinkId) :
    (s.beforeDrainTest n k d g credit).used m = (s.acknowledge n k d).used m := by
  refine used_congr fun x => ?_
  rw [desc_beforeDrainTest_eq, desc_reportedSeen h]
  split <;> rfl

theorem updateDue_beforeDrainTest (h : LinkOwns s n) (k : Ordinal) (d : Nat) (g : BitVec 7) (credit : Nat) (m : LinkId) :
    (s.beforeDrainTest n k d g credit).updateDue m = (s.acknowledge n k d).updateDue m := by
  have hkept : ∀ j, ((s.beforeDrainTest n k d g credit).le j).session = ((s.acknowledge n k d).le j).session ∧
      ((s.beforeDrainTest n k d g credit).le j).advertised = ((s.acknowledge n k d).le j).advertised ∧
      ((s.beforeDrainTest n k d g credit).le j).window = ((s.acknowledge n k d).le j).window ∧
      ((s.beforeDrainTest n k d g credit).link j).guarantee = ((s.acknowledge n k d).link j).guarantee := by
    intro j
    unfold State.le
    rw [link_beforeDrainTest]
    split
    · rename_i hj
      rw [hj, Link.credited, receiptTimer_eq rfl]
      exact ⟨rfl, rfl, rfl, rfl⟩
    · exact ⟨rfl, rfl, rfl, rfl⟩
  obtain ⟨hsession, hadvertised, hwindow, -⟩ := hkept m
  refine updateDue_congr_of_engine hsession hadvertised hwindow (fun j => ?_) ?_ ?_ (used_beforeDrainTest h k d g credit)
  · obtain ⟨-, -, -, hguarantee⟩ := hkept j
    exact hguarantee
  · rw [beforeDrainTest_eq]
    rfl
  · rw [beforeDrainTest_eq]
    rfl

theorem completion_beforeDrainTest (h : LinkOwns s n) (k : Ordinal) (d : Nat) (g : BitVec 7) (credit : Nat) :
    (s.beforeDrainTest n k d g credit).completion =
        s.completion ++ completionRecords (s.le n).latched.reporting (s.completedAtReceipt n d) ∧
      (s.beforeDrainTest n k d g credit).globalEvents =
        s.globalEvents ||| (if (s.beforeDrainTest n k d g credit).completion = s.completion then 0 else 0x02) |||
          (if (s.link n).counters.get 4 = 32767 then 0x08 else 0) := by
  obtain ⟨hcompletion, hevents⟩ := completion_acknowledge h k d
  have hcounters : ((s.acknowledge n k d).link n).counters = (s.link n).counters := by rw [link_acknowledge_same h]
  have hqueue : (s.beforeDrainTest n k d g credit).completion =
      s.completion ++ completionRecords (s.le n).latched.reporting (s.completedAtReceipt n d) := by
    rw [beforeDrainTest_eq]
    exact hcompletion
  refine ⟨hqueue, ?_⟩
  have hset : (s.beforeDrainTest n k d g credit).globalEvents = (s.acknowledge n k d).globalEvents |||
      (if ((s.acknowledge n k d).link n).counters.get 4 = 32767 then 0x08 else 0) := by
    rw [beforeDrainTest_eq]
  rw [hset, hevents, hcounters, hqueue]
  simp only [List.append_right_eq_self]
  by_cases hnone : completionRecords (s.le n).latched.reporting (s.completedAtReceipt n d) = [] <;> simp [hnone]

theorem poolFrame_beforeDrainTest (n : LinkId) (k : Ordinal) (d : Nat) (g : BitVec 7) (credit : Nat) (s : State) :
    PoolFrame s (s.beforeDrainTest n k d g credit) := by
  have hparts : PoolFrame (s.acknowledge n k d) (s.beforeDrainTest n k d g credit) := by
    rw [beforeDrainTest_eq]
    rfl
  exact (poolFrame_acknowledge n k d s).trans hparts

/-- The other links, where a release has made a window update due (R17). -/
theorem link_beforeDrainTest_ne (h : LinkOwns s n) (k : Ordinal) (d : Nat) (g : BitVec 7) (credit : Nat) {m : LinkId}
    (hm : m ≠ n) :
    (s.beforeDrainTest n k d g credit).link m =
      if s.completedAtReceipt n d ≠ [] ∧ (s.beforeDrainTest n k d g credit).updateDue m = true then
        (s.link m).makeReceipt
      else s.link m := by
  rw [updateDue_beforeDrainTest h, link_beforeDrainTest, if_neg hm, link_acknowledge h, link_markedAtReceipt, if_neg hm]

/-! ## The link of the receipt (R101-R106, R125) -/

theorem link_beforeDrainTest_same (h : LinkOwns s n) (k : Ordinal) (d : Nat) (g : BitVec 7) (credit : Nat) :
    (s.beforeDrainTest n k d g credit).link n =
      { (s.link n).counted .rcptTaken with le := (s.beforeDrainTest n k d g credit).le n } := by
  rw [State.le, link_beforeDrainTest, if_pos rfl, link_acknowledge_same h]
  rfl

/-- The Link Engine after a valid receipt, the drain test still to come (R101, R105, R106, R125). -/
theorem le_beforeDrainTest (h : LinkOwns s n) (k : Ordinal) (d : Nat) (g : BitVec 7) (credit : Nat) :
    (s.beforeDrainTest n k d g credit).le n = { s.le n with
      oldest := k, retention := (s.le n).retention.drop d, peerCredit := credit, retryCount := 0
      pending := { (s.le n).pending with
        receipt := (s.le n).pending.receipt ||
          (decide (s.completedAtReceipt n d ≠ []) && (s.beforeDrainTest n k d g credit).updateDue n) }
      timer :=
        if ¬ ((s.le n).session = .open_ ∨ (s.le n).session = .draining) then (s.le n).timer
        else if (s.le n).retention.drop d ≠ [] then
          if 0 < d then some { mode := .resend, duration := (s.le n).latched.rto, count := 0 }
          else (s.le n).timer.map LinkTimer.holdOff
        else if (s.le n).submit ≠ [] ∧ credit = 0 then
          if (s.le n).timerMode = some .query then (s.le n).timer.map LinkTimer.holdOff
          else some { mode := .query, duration := (s.le n).latched.rto, count := 0 }
        else none } := by
  rw [updateDue_beforeDrainTest h, State.le, link_beforeDrainTest, if_pos rfl, Link.credited, receiptTimer_eq rfl,
    link_acknowledge_same h]
  simp only [decide_eq_true_eq]
  rfl

theorem any_not_isOnLine_eq (s : State) (n : LinkId) (d : Nat) :
    (s.leavingAtReceipt n d).any (fun x => !s.isOnLine x) = decide (s.completedAtReceipt n d ≠ []) := by
  rw [Bool.eq_iff_iff, decide_eq_true_iff, State.completedAtReceipt, Ne, List.filter_eq_nil_iff]
  simp

/-- The freed descriptors by what the receipt makes of each (R15, R16). -/
theorem freeDescs_beforeDrainTest (h : LinkOwns s n) (k : Ordinal) (d : Nat) (g : BitVec 7) (credit : Nat) :
    (s.beforeDrainTest n k d g credit).freeDescs = s.freeDescs ++ (List.finRange 64).filter fun x =>
      decide (((s.beforeDrainTest n k d g credit).desc x).state = .free) && decide ((s.desc x).state ≠ .free) := by
  obtain ⟨hfree, -, -⟩ := pool_beforeDrainTest h k d g credit
  rw [hfree, ascending, List.filter_filter]
  refine congrArg (s.freeDescs ++ ·) (List.filter_congr fun x _ => ?_)
  by_cases hx : x ∈ s.leavingAtReceipt n d
  · have hstate := state_of_leavingAtReceipt h hx
    rw [desc_beforeDrainTest h, if_pos hx]
    cases hline : s.isOnLine x <;> cases hreporting : (s.le n).latched.reporting <;>
      simp [State.completedAtReceipt, hx, hline, hstate]
  · obtain ⟨hstate, -⟩ := desc_beforeDrainTest_of_stays h k g credit hx
    rw [hstate]
    simp [State.completedAtReceipt, hx]

/-- The freed blocks by what the receipt makes of each descriptor (R15, R16). -/
theorem freeBlocks_beforeDrainTest (h : LinkOwns s n) (k : Ordinal) (d : Nat) (g : BitVec 7) (credit : Nat) :
    (s.beforeDrainTest n k d g credit).freeBlocks = s.freeBlocks ++ (List.finRange 64).flatMap fun x =>
      if ((s.beforeDrainTest n k d g credit).desc x).blocks = [] then (s.desc x).blocks else [] := by
  obtain ⟨-, hfree, -⟩ := pool_beforeDrainTest h k d g credit
  rw [hfree, ascending, flatMap_filter_eq_ite]
  refine congrArg (s.freeBlocks ++ ·) (List.flatMap_congr fun x _ => ?_)
  by_cases hx : x ∈ s.leavingAtReceipt n d
  · rw [desc_beforeDrainTest h, if_pos hx]
    cases hline : s.isOnLine x <;> cases hreporting : (s.le n).latched.reporting <;>
      simp [State.completedAtReceipt, hx, hline]
  · obtain ⟨-, hblocks⟩ := desc_beforeDrainTest_of_stays h k g credit hx
    rw [hblocks]
    simp [State.completedAtReceipt, hx]

/-- Settles O54: the receipt's parts up to the drain test, field by field. -/
theorem validReceiptInParts : Obligations.ValidReceiptInParts := by
  intro n k g c s _ howners e d leaving kept sending heldOff released hlive hrange
  obtain ⟨-, hlinks, -⟩ := howners
  have howns := hlinks n
  have hexec : exec (.receiveReceipt n e.epoch k g c) s =
      .next ((s.beforeDrainTest n k d g (takeCredit c.toNat)).drainTest n) := by
    have hsession : (s.le n).session.live = true := (live_iff _).mpr (or_assoc.mp hlive)
    rw [exec_receiveReceipt, takeReceipt_of_live hsession, if_pos rfl, if_pos hrange, takeValidReceipt_eq]
  have hreleased : released = decide (s.completedAtReceipt n d ≠ []) := any_not_isOnLine_eq s n d
  have hlink := link_beforeDrainTest_same howns k d g (takeCredit c.toNat)
  obtain ⟨hcompletion, hevents⟩ := completion_beforeDrainTest howns k d g (takeCredit c.toNat)
  obtain ⟨-, -, hwatermark⟩ := pool_beforeDrainTest howns k d g (takeCredit c.toNat)
  refine ⟨s.beforeDrainTest n k d g (takeCredit c.toNat), _, hexec, rfl, desc_beforeDrainTest howns k d g _, hcompletion,
    ?engine, ?link, fun i => ?counter, ?half, hevents, freeDescs_beforeDrainTest howns k d g _,
    freeBlocks_beforeDrainTest howns k d g _, fun j hj => ?others, hwatermark, poolFrame_beforeDrainTest n k d g _ s⟩
  case engine =>
    rw [le_beforeDrainTest howns, hreleased]
    simp only [takeCredit_eq_zero_iff]
    rfl
  case link =>
    rw [hlink]
    rfl
  case counter =>
    rw [hlink]
    exact get_counters_counted .rcptTaken (s.link n) i
  case half =>
    rw [hlink]
    rfl
  case others =>
    rw [link_beforeDrainTest_ne howns k d g _ hj, hreleased]
    simp only [decide_eq_true_eq]

end

end Sys2Proof.Machine
end

section
/-! What falls due in one REFCLK period, and the order in which it waits (R29, R32, R35, R41,
R114, R115, R137; log entries 1 and 3). -/

namespace Sys2Proof.Machine

/-! ## What a TU boundary and a period bring to their durations -/

theorem holdOver_iff (e : LinkEngine) : e.holdOver = true ↔ ∃ c, e.holdTimer = some c ∧ e.latched.holdTime ≤ c := by
  simp [LinkEngine.holdOver, Option.any_eq_true]

theorem boundaryNow_iff (s : State) : s.boundaryNow = true ↔ s.tuLength ≤ s.tuElapsed + 1 := decide_eq_true_iff

theorem boundaryNow_of_within {s : State} (h : s.tuElapsed + 1 < s.tuLength) : s.boundaryNow = false :=
  Bool.eq_false_iff.mpr (mt (boundaryNow_iff s).mp (Nat.not_le_of_lt h))

theorem boundaryNow_of_not_within {s : State} (h : ¬ s.tuElapsed + 1 < s.tuLength) : s.boundaryNow = true :=
  (boundaryNow_iff s).mpr (Nat.le_of_not_lt h)

/-- The expiry of a link timer that has come to its duration. -/
def timerDue (n : LinkId) : Option LinkTimer → List Instr
  | some t => if t.over then [t.mode.expiry n] else []
  | none => []

theorem boundaryDue_eq (n : LinkId) (l : Link) :
    l.boundaryDue n = (if l.lu.lossOver then [Instr.lineLossExpiry n] else []) ++ timerDue n l.le.timer ++
      (if l.le.holdOver then [Instr.receiptHoldExpiry n] else []) := rfl

theorem mem_timerDue (c : Instr) (n : LinkId) (timer : Option LinkTimer) :
    c ∈ timerDue n timer ↔ ∃ t, timer = some t ∧ t.duration ≤ t.count ∧ c = t.mode.expiry n := by
  cases timer <;> simp [timerDue, LinkTimer.over]

/-- The TU timers that a boundary brings to their durations (R29, R115, R137). -/
theorem mem_boundaryDue (c : Instr) (n : LinkId) (l : Link) :
    c ∈ l.boundary.boundaryDue n ↔
      (c = .lineLossExpiry n ∧ ∃ k, l.lu.lossTimer = some k ∧ l.lu.lossLimit ≤ k + 1) ∨
      (c = .receiptHoldExpiry n ∧ ∃ k, l.le.holdTimer = some k ∧ l.le.latched.holdTime ≤ k + 1) ∨
      ∃ r, l.le.timer = some r ∧ r.duration ≤ r.count + 1 ∧ c = r.mode.expiry n := by
  have hloss : l.boundary.lu.lossOver = true ↔ ∃ k, l.lu.lossTimer = some k ∧ l.lu.lossLimit ≤ k + 1 := by
    simp [lossOver_iff, Link.boundary]
  have hhold : l.boundary.le.holdOver = true ↔ ∃ k, l.le.holdTimer = some k ∧ l.le.latched.holdTime ≤ k + 1 := by
    simp [holdOver_iff, Link.boundary]
  have htimer : (∃ t, l.boundary.le.timer = some t ∧ t.duration ≤ t.count ∧ c = t.mode.expiry n) ↔
      ∃ r, l.le.timer = some r ∧ r.duration ≤ r.count + 1 ∧ c = r.mode.expiry n := by
    simp [Link.boundary, LinkTimer.boundary]
  rw [boundaryDue_eq, List.mem_append, List.mem_append, mem_timerDue, htimer, List.mem_ite_nil_right,
    List.mem_ite_nil_right, List.mem_singleton, List.mem_singleton, hloss, hhold, or_assoc,
    or_comm (a := ∃ r, _), and_comm (a := ∃ k, _), and_comm (a := ∃ k, _)]

/-- The gap timer that a period brings to its limit (R41). -/
theorem mem_gapDue (c : Instr) (n : LinkId) (u : LineUnit) :
    c ∈ u.gapTick.gapDue n ↔
      c = .gapTimerExpiry n ∧ ∃ g, u.gapTimer = some g ∧ u.gapLimit * g.charTime ≤ g.elapsed + 1 := by
  have hover : u.gapTick.gapOver = true ↔ ∃ g, u.gapTimer = some g ∧ u.gapLimit * g.charTime ≤ g.elapsed + 1 := by
    simp [gapOver_iff, LineUnit.gapTick]
  rw [LineUnit.gapDue, List.mem_ite_nil_right, List.mem_singleton, hover, and_comm]

/-- What falls due on a link in one period, part by part. -/
theorem mem_linkDue (c : Instr) (boundary prev now : Bool) (n : LinkId) (l : Link) :
    c ∈ l.due boundary prev now n ↔
      (c = .lineLossExpiry n ∧ boundary = true ∧ ∃ k, l.lu.lossTimer = some k ∧ l.lu.lossLimit ≤ k + 1) ∨
      (c = .receiptHoldExpiry n ∧ boundary = true ∧ ∃ k, l.le.holdTimer = some k ∧ l.le.latched.holdTime ≤ k + 1) ∨
      (boundary = true ∧ ∃ r, l.le.timer = some r ∧ r.duration ≤ r.count + 1 ∧ c = r.mode.expiry n) ∨
      (c = .gapTimerExpiry n ∧ ∃ g, l.lu.gapTimer = some g ∧ l.lu.gapLimit * g.charTime ≤ g.elapsed + 1) ∨
      c ∈ l.lu.rxDue n prev now ∨ c ∈ l.lu.txDue n := by
  rw [Link.due, List.mem_append, List.mem_append, List.mem_append, List.mem_ite_nil_right, mem_boundaryDue, mem_gapDue]
  simp only [and_or_left, or_assoc, and_left_comm (a := boundary = true)]

theorem mem_due (c : Instr) (s : State) :
    c ∈ s.due ↔ ∃ n, c ∈ (s.link n).due s.boundaryNow (s.rxd.get n).level (s.rxd.get n).next n := by
  have hall : ∀ n : LinkId, n ∈ allLinks := by decide
  simp [State.due, hall]

/-- Settles O4: what falls due on each link, part by part. -/
theorem timersExpireAtTheirDurations : Obligations.TimersExpireAtTheirDurations := by
  intro s c boundary
  rw [mem_due]
  refine exists_congr fun n => ?_
  rw [mem_linkDue, boundaryNow_iff]
  rfl

/-! ## What falls due falls due once -/

/-- What can fall due on a link in one period, in the order in which it is listed. -/
def dueEvents (n : LinkId) (mode : TimerMode) (samples : BitVec 12) (cut : Bool) : List Instr :=
  [.lineLossExpiry n, mode.expiry n, .receiptHoldExpiry n, .gapTimerExpiry n, .receiveCharacter n samples, .lineBreak n,
    .rxdReturnsToMark n, if cut then .abortEnd n else .transmissionEnd n, .transmitChoice n, .transmitterFillStart n]

/-- A list that may be left out. -/
theorem ite_nil_sublist {α : Type} (p : Prop) [Decidable p] (l : List α) : (if p then l else []).Sublist l := by
  split
  · exact List.Sublist.refl l
  · exact List.nil_sublist l

theorem timerDue_sublist (n : LinkId) (timer : Option LinkTimer) :
    ∃ mode : TimerMode, (timerDue n timer).Sublist [mode.expiry n] := by
  cases timer with
  | none => exact ⟨.control, List.nil_sublist _⟩
  | some t => exact ⟨t.mode, ite_nil_sublist _ _⟩

theorem boundaryDue_sublist (n : LinkId) (l : Link) : ∃ mode : TimerMode,
    (l.boundaryDue n).Sublist [.lineLossExpiry n, mode.expiry n, .receiptHoldExpiry n] := by
  obtain ⟨mode, htimer⟩ := timerDue_sublist n l.le.timer
  exact ⟨mode, ((ite_nil_sublist _ _).append htimer).append (ite_nil_sublist _ _)⟩

theorem rxDue_sublist (n : LinkId) (prev now : Bool) (u : LineUnit) : ∃ samples : BitVec 12,
    (u.rxDue n prev now).Sublist [.receiveCharacter n samples, .lineBreak n, .rxdReturnsToMark n] := by
  unfold LineUnit.rxDue
  split
  · rename_i samples _
    exact ⟨samples, ((List.Sublist.refl _).append (ite_nil_sublist _ _)).append (ite_nil_sublist _ _)⟩
  · exact ⟨0, ((List.nil_sublist [Instr.receiveCharacter n 0]).append (ite_nil_sublist _ _)).append (ite_nil_sublist _ _)⟩

theorem txDue_sublist (n : LinkId) (u : LineUnit) :
    (u.txDue n).Sublist [if u.tx.cut then .abortEnd n else .transmissionEnd n, .transmitChoice n, .transmitterFillStart n] := by
  unfold LineUnit.txDue
  split
  · split
    · exact List.nil_sublist _
    · split
      · exact List.sublist_append_left _ [Instr.transmitterFillStart n]
      · simp
    · simp
    · simp
  · exact List.nil_sublist _

/-- What falls due on a link in one period is part of one list. -/
theorem due_sublist (boundary prev now : Bool) (n : LinkId) (l : Link) : ∃ mode samples,
    (l.due boundary prev now n).Sublist (dueEvents n mode samples l.lu.tx.cut) := by
  obtain ⟨mode, htimers⟩ := boundaryDue_sublist n l.boundary
  obtain ⟨samples, hrx⟩ := rxDue_sublist n prev now l.lu
  exact ⟨mode, samples, ((((ite_nil_sublist _ _).trans htimers).append (ite_nil_sublist _ _)).append hrx).append
    (txDue_sublist n l.lu)⟩

/-- The link of an event that can fall due in a period. -/
def eventLink : Instr → Option LinkId
  | .lineLossExpiry n | .controlExpiry n | .resendExpiry n | .queryExpiry n | .receiptHoldExpiry n | .gapTimerExpiry n
  | .receiveCharacter n _ | .lineBreak n | .rxdReturnsToMark n | .abortEnd n | .transmissionEnd n | .transmitChoice n
  | .transmitterFillStart n => some n
  | _ => none

theorem eventLink_of_mem_dueEvents {c : Instr} {n : LinkId} {mode : TimerMode} {samples : BitVec 12} {cut : Bool}
    (h : c ∈ dueEvents n mode samples cut) : eventLink c = some n := by
  have hlinks : (dueEvents n mode samples cut).map eventLink = List.replicate 10 (some n) := by
    cases mode <;> cases cut <;> rfl
  exact List.eq_of_mem_replicate (hlinks ▸ List.mem_map_of_mem h)

theorem nodup_dueEvents (n : LinkId) (mode : TimerMode) (samples : BitVec 12) (cut : Bool) :
    (dueEvents n mode samples cut).Nodup := by
  cases mode <;> cases cut <;> simp [dueEvents, TimerMode.expiry]

/-- What falls due in a period falls due once: on one link as a part of `dueEvents`, on two links with different links. -/
theorem nodup_due (s : State) : s.due.Nodup := by
  refine List.nodup_flatMap.mpr ⟨fun n _ => ?_, ?_⟩
  · obtain ⟨mode, samples, hsub⟩ := due_sublist s.boundaryNow (s.rxd.get n).level (s.rxd.get n).next n (s.link n)
    exact (nodup_dueEvents n mode samples _).sublist hsub
  · have hne : allLinks.Pairwise (· ≠ ·) := by decide
    refine hne.imp fun {m n} hmn c hm hn => hmn ?_
    obtain ⟨_, _, hsubm⟩ := due_sublist s.boundaryNow (s.rxd.get m).level (s.rxd.get m).next m (s.link m)
    obtain ⟨_, _, hsubn⟩ := due_sublist s.boundaryNow (s.rxd.get n).level (s.rxd.get n).next n (s.link n)
    exact Option.some.inj ((eventLink_of_mem_dueEvents (hsubm.subset hm)).symm.trans
      (eventLink_of_mem_dueEvents (hsubn.subset hn)))

/-! ## The order in which they wait (log entry 3) -/

theorem insertAt_perm (p : Nat) (x : Instr) (l : List Instr) : (insertAt p x l).Perm (x :: l) := by
  unfold insertAt
  exact List.perm_middle.trans (by rw [List.take_append_drop])

theorem sublist_insertAt (p : Nat) (x : Instr) (l : List Instr) : l.Sublist (insertAt p x l) := by
  conv_lhs => rw [← List.take_append_drop p l]
  exact (List.Sublist.refl _).append (List.sublist_cons_self x _)

/-- An event is inserted no further than its last place. -/
theorem arrange_cons (i : Nat) (x : Instr) (l : List Instr) :
    ∃ p ≤ lastPlace x (arrange (i + 1) l), arrange i (x :: l) = insertAt p x (arrange (i + 1) l) := by
  rw [arrange]
  split
  · exact ⟨0, Nat.zero_le _, rfl⟩
  · rename_i m hplace
    exact ⟨_, hplace ▸ Nat.le_of_lt_succ (Nat.mod_lt _ (Nat.succ_pos _)), rfl⟩

theorem arrange_perm (l : List Instr) : ∀ i, (arrange i l).Perm l := by
  induction l with
  | nil => exact fun i => List.Perm.refl _
  | cons x l ih =>
    intro i
    obtain ⟨p, -, harrange⟩ := arrange_cons i x l
    rw [harrange]
    exact (insertAt_perm p x _).trans ((ih (i + 1)).cons x)

/-- What stands in a list stands behind each place up to its first occurrence. -/
theorem mem_drop_of_le_takeWhile {c : Instr} (l : List Instr) : c ∈ l → ∀ p ≤ (l.takeWhile (· != c)).length, c ∈ l.drop p := by
  induction l with
  | nil => exact nofun
  | cons y l ih =>
    intro h p hp
    cases p with
    | zero => exact h
    | succ p =>
      by_cases hy : y = c
      · simp [hy] at hp
      · have hrest : c ∈ l := (List.mem_cons.mp h).resolve_left (Ne.symm hy)
        exact ih hrest p (by simpa [hy] using hp)

/-- The end of a parcel waits before the choice that follows it (R32, R35). -/
theorem end_before_choice_arrange {n : LinkId} {x : Instr} (hx : x = .transmissionEnd n ∨ x = .abortEnd n) (l : List Instr) :
    ∀ i, [x, .transmitChoice n].Sublist l → [x, .transmitChoice n].Sublist (arrange i l) := by
  induction l with
  | nil => exact fun i h => h
  | cons y l ih =>
    intro i h
    obtain ⟨p, hp, harrange⟩ := arrange_cons i y l
    rw [harrange]
    rcases List.sublist_cons_iff.mp h with hrest | ⟨r, hr, hchoice⟩
    · exact (ih (i + 1) hrest).trans (sublist_insertAt p y _)
    · obtain ⟨rfl, rfl⟩ := List.cons.inj hr
      have hmem : .transmitChoice n ∈ arrange (i + 1) l :=
        (arrange_perm l (i + 1)).mem_iff.mpr (List.singleton_sublist.mp hchoice)
      have hplace : lastPlace x (arrange (i + 1) l) =
          ((arrange (i + 1) l).takeWhile fun c => c != .transmitChoice n).length := by
        rcases hx with rfl | rfl <;> rfl
      have hbehind := mem_drop_of_le_takeWhile _ hmem p (hplace ▸ hp)
      exact ((List.singleton_sublist.mpr hbehind).cons_cons x).trans (List.sublist_append_right _ _)

/-! ## One REFCLK period -/

/-- Settles O3: the period's state field by field, what falls due once, and the order of insertion. -/
theorem idleStepCountsOnePeriod : Obligations.IdleStepCountsOnePeriod := by
  refine ⟨fun s hidle => ⟨s.tick, ?step, ?timebase, fun n => ?link, fun n => ?line, nodup_due s, ?queue, rfl, tick_frame s⟩,
    fun i l => ⟨arrange_perm l i, fun n x hx hsub _ => end_before_choice_arrange hx l i hsub⟩⟩
  case step => rw [step, hidle]
  case timebase =>
    by_cases hwithin : s.tuElapsed + 1 < s.tuLength
    · simp [State.tick, boundaryNow_of_within hwithin, hwithin]
    · simp [State.tick, boundaryNow_of_not_within hwithin, hwithin]
  case link =>
    rw [tick_link]
    by_cases hwithin : s.tuElapsed + 1 < s.tuLength
    · simp only [boundaryNow_of_within hwithin, if_pos hwithin, Option.map_id_fun', id]
      rfl
    · simp only [boundaryNow_of_not_within hwithin, if_neg hwithin]
      rfl
  case line =>
    rw [tick_rxd, RxdLine.tick, List.drop_one]
    rfl
  case queue => rw [State.tick, hidle, List.nil_append]

end Sys2Proof.Machine
end

section
/-! Expiries of the link timer and of the receipt hold timer: what they leave below the retry limit, and the session end of an
exhaustion (R115-R119, R121, R124, R129, R146). -/

namespace Sys2Proof.Machine
open Sys2Proof.Safety

/-! ## An expiry counted -/

/-- A Link Engine may be changed before an occurrence on its link is counted or after it. -/
theorem count_modLE (n : LinkId) (c : Counter) (f : LinkEngine → LinkEngine) (s : State) :
    (s.count n c).modLE n f = (s.modLE n f).count n c := by
  have hlink : (s.modLE n f).link n = { s.link n with le := f (s.le n) } := State.link_modLink_same n _ s
  have hlinks : (s.modLink n (Link.counted c)).modLE n f = (s.modLE n f).modLink n (Link.counted c) :=
    (modLink_modLink n _ _ s).trans
      (modLink_modLink n (fun l => { l with le := f l.le }) (Link.counted c) s).symm
  rw [count_eq, count_eq, hlink, ← hlinks]
  rfl

theorem linkOwns_count {s : State} {n : LinkId} (h : LinkOwns s n) (c : Counter) : LinkOwns (s.count n c) n := by
  refine linkOwns_congr h (State.desc_count n c s) ?_ ?_ ?_
  · rw [le_count]
    exact ⟨rfl, rfl, rfl⟩
  · rw [lu_count]
  · rw [lu_count]

/-- A Link Engine whose retry count has risen. -/
def LinkEngine.retried (e : LinkEngine) : LinkEngine := { e with retryCount := e.retryCount + 1 }

/-- A link timer that has come to its duration in a mode (R115, R116). -/
def LinkEngine.DueIn (e : LinkEngine) (m : TimerMode) : Prop :=
  ∃ r, e.timer = some r ∧ r.mode = m ∧ r.duration ≤ r.count

theorem expireIn_of_not_due {s : State} {n : LinkId} {m : TimerMode} (h : ¬ (s.le n).DueIn m) : s.expireIn n m = s :=
  expireIn_eq_self n m s fun t ht hm => decide_eq_false fun hover => h ⟨t, ht, hm, hover⟩

theorem expireIn_of_due {s : State} {n : LinkId} {m : TimerMode} (h : (s.le n).DueIn m) :
    s.expireIn n m = s.linkTimerExpires n m := by
  obtain ⟨t, ht, hm, hover⟩ := h
  exact expireIn_eq_expires n m s t ht hm (decide_eq_true hover)

/-! ## Below the retry limit (R118, R121, R124, R129) -/

/-- A Link Engine after an expiry below the retry limit, but for what its mode adds (R117, R118). -/
def LinkEngine.restarted (m : TimerMode) (e : LinkEngine) : LinkEngine :=
  { e with
    retryCount := e.retryCount + 1
    timer := some { mode := m, duration := e.latched.rto * 2 ^ min (e.retryCount + 1) 3, count := 0 } }

/-- The timer starts again in the mode it has expired in, whatever has been made pending. -/
theorem restartTimer_retried {e : LinkEngine} {m : TimerMode} (h : e.DueIn m) (p : Pending) :
    { e.retried with pending := p }.restartTimer = { e.restarted m with pending := p } := by
  obtain ⟨t, ht, rfl, -⟩ := h
  simp only [LinkEngine.restartTimer, LinkEngine.retried, ht]
  rfl

theorem linkTimerExpires_below {s : State} {n : LinkId} (m : TimerMode)
    (hlimit : (s.le n).retryCount + 1 < (s.le n).latched.retryLimit) :
    s.linkTimerExpires n m =
      (((s.modLE n LinkEngine.retried).count n .timerExpiry).expiryEffect n m).modLE n LinkEngine.restartTimer :=
  if_neg (Nat.not_le_of_lt hlimit)

/-- An expiry below the limit in a mode that makes a parcel pending. -/
theorem expireIn_below {s : State} {n : LinkId} {m : TimerMode} {f : LinkEngine → LinkEngine} {p : Pending → Pending}
    (hdue : (s.le n).DueIn m) (hlimit : (s.le n).retryCount + 1 < (s.le n).latched.retryLimit)
    (heffect : ∀ t : State, t.expiryEffect n m = t.modLE n f)
    (hf : f (s.le n).retried = { (s.le n).retried with pending := p (s.le n).pending }) :
    s.expireIn n m = (s.modLE n fun e => { e.restarted m with pending := p e.pending }).count n .timerExpiry := by
  rw [expireIn_of_due hdue, linkTimerExpires_below m hlimit, heffect, count_modLE, count_modLE, modLE_modLE, modLE_modLE]
  refine congrArg (State.count n .timerExpiry) (modLE_congr ?_)
  rw [hf, restartTimer_retried hdue]

/-- A mark that, made twice, is made once reaches each listed descriptor, however often it is listed. -/
theorem desc_foldl_modDesc_of_idem {f : Descriptor → Descriptor} (hidem : ∀ r, f (f r) = f r)
    (hstate : ∀ r, (f r).state = r.state) (ds : List DescId) : ∀ (s : State) x,
    (ds.foldl (fun s d => s.modDesc d f) s).desc x =
      if x ∈ ds ∧ (s.desc x).state ≠ .free then f (s.desc x) else s.desc x := by
  induction ds with
  | nil => intro s x; simp
  | cons d ds ih =>
    intro s x
    rw [List.foldl_cons, ih, State.desc_modDesc]
    by_cases hx : x = d
    · subst hx
      by_cases hfree : (s.desc x).state = .free <;> simp [hfree, hstate, hidem]
    · simp [hx]

/-- A descriptor marked for resend, unless it is *seen* or *on line* (R124). -/
def Descriptor.markedForResend (r : Descriptor) : Descriptor :=
  if r.seen = some true ∨ r.onLine = some true then r else { r with resendPending := some true }

theorem expiryEffect_resend_eq (n : LinkId) (s : State) : s.expiryEffect n .resend =
    (s.le n).retention.foldl (fun t d => t.modDesc d Descriptor.markedForResend) s := rfl

theorem markedForResend_eq (r : Descriptor) :
    r.markedForResend = if r.seen ≠ some true ∧ r.onLine ≠ some true then { r with resendPending := some true } else r := by
  rw [Descriptor.markedForResend, ← ite_not]
  simp only [not_or, ne_eq]

theorem desc_expiryEffect_resend (n : LinkId) (s : State) (x : DescId) :
    (s.expiryEffect n .resend).desc x =
      if x ∈ (s.le n).retention ∧ (s.desc x).state ≠ .free then (s.desc x).markedForResend else s.desc x := by
  have hidem : ∀ r : Descriptor, r.markedForResend.markedForResend = r.markedForResend := by
    intro r
    unfold Descriptor.markedForResend
    split_ifs <;> rfl
  have hstate : ∀ r : Descriptor, r.markedForResend.state = r.state := by
    intro r
    unfold Descriptor.markedForResend
    split <;> rfl
  rw [expiryEffect_resend_eq]
  exact desc_foldl_modDesc_of_idem hidem hstate (s.le n).retention s x

/-- The marks change descriptors alone. -/
theorem expiryEffect_resend_frame (n : LinkId) (s : State) :
    s.expiryEffect n .resend = { s with descs := (s.expiryEffect n .resend).descs } := foldl_modDesc_frame _ s

/-- An expiry below the limit in RESEND mode: the Link Engine and the count as in the other modes, and the marks. -/
theorem expireIn_resend_below {s : State} {n : LinkId} (hdue : (s.le n).DueIn .resend)
    (hlimit : (s.le n).retryCount + 1 < (s.le n).latched.retryLimit) :
    { s.expireIn n .resend with descs := s.descs } =
        (s.modLE n (LinkEngine.restarted .resend)).count n .timerExpiry ∧
      ∀ d, (s.expireIn n .resend).desc d =
        if d ∈ (s.le n).retention ∧ (s.desc d).state ≠ .free then (s.desc d).markedForResend else s.desc d := by
  have hle : (((s.modLE n LinkEngine.retried).count n .timerExpiry).le n).retention = (s.le n).retention := by
    rw [le_count, State.le_modLE_same]
    rfl
  have hcounted : ((s.modLE n LinkEngine.retried).count n .timerExpiry).descs = s.descs := by
    simp
  have hrestarted : ((s.modLE n LinkEngine.retried).count n .timerExpiry).modLE n LinkEngine.restartTimer =
      (s.modLE n (LinkEngine.restarted .resend)).count n .timerExpiry := by
    rw [count_modLE, modLE_modLE]
    exact congrArg (State.count n .timerExpiry) (modLE_congr (restartTimer_retried hdue (s.le n).pending))
  rw [expireIn_of_due hdue, linkTimerExpires_below .resend hlimit, ← hrestarted]
  constructor
  · rw [expiryEffect_resend_frame, ← hcounted]
    rfl
  · intro d
    rw [State.desc_modLE, desc_expiryEffect_resend, hle, State.desc_count, State.desc_modLE]

/-! ### The handshake parcel of the state (R121) -/

theorem handshakeAgain_opening {e : LinkEngine} (h : e.session = .opening) :
    e.handshakeAgain = { e with pending := { e.pending with open_ := true } } := by
  cases e
  cases h
  rfl

theorem handshakeAgain_closing {e : LinkEngine} (h : e.session = .closing) :
    e.handshakeAgain = { e with pending := { e.pending with close := true } } := by
  cases e
  cases h
  rfl

/-- Settles O51: a timer that is not due by `expireIn_of_not_due`, the others by what their mode adds. -/
theorem expiriesBelowTheLimit : Obligations.ExpiriesBelowTheLimit := by
  intro n s e row counted due holdDue
  have hhold : holdDue ↔ e.holdOver = true := (holdOver_iff e).symm
  refine ⟨fun m hrest => ?rest, fun hlimit => ⟨fun hdue hsession => ?opening, fun hdue hsession => ?closing,
    fun hdue => ?query, fun hdue hretained => ?resend⟩, fun hrest => ?holdRest, fun hover => ?hold⟩
  case rest => cases m <;> exact congrArg _ (expireIn_of_not_due hrest)
  case opening =>
    refine congrArg Host.Outcome.next (expireIn_below (p := fun p => { p with open_ := true }) hdue hlimit (fun _ => rfl) ?_)
    exact handshakeAgain_opening hsession
  case closing =>
    refine congrArg Host.Outcome.next (expireIn_below (p := fun p => { p with close := true }) hdue hlimit (fun _ => rfl) ?_)
    exact handshakeAgain_closing hsession
  case query =>
    exact congrArg Host.Outcome.next (expireIn_below (f := fun e => { e with pending := { e.pending with query := true } })
      (p := fun p => { p with query := true }) hdue hlimit (fun _ => rfl) rfl)
  case resend =>
    obtain ⟨hframe, hdescs⟩ := expireIn_resend_below hdue hlimit
    refine ⟨s.expireIn n .resend, rfl, hframe, fun d => ?_⟩
    rw [hdescs]
    by_cases hd : d ∈ (s.le n).retention
    · simp [e, hd, hretained d hd, markedForResend_eq]
    · simp [e, hd]
  case holdRest => exact if_neg (mt hhold.mpr hrest)
  case hold => exact (if_pos (hhold.mp hover)).trans (congrArg Host.Outcome.next (modLE_modLE n _ _ s))

/-! ## At the retry limit (R119) -/

/-- A session end leaves no retry count. -/
theorem endSession_modLE_retried (n : LinkId) (cause : EndCause) (keep : Keep) (s : State) :
    (s.modLE n LinkEngine.retried).endSession n cause keep = s.endSession n cause keep := by
  unfold State.endSession
  simp only [State.le_modLE_same, State.lu_modLE, modLE_modLE]
  rfl

/-- An expiry at the limit is the session end of a link that has counted it and made its DROP pending. -/
theorem expireIn_exhausted {s : State} {n : LinkId} {m : TimerMode} (hdue : (s.le n).DueIn m)
    (hlimit : (s.le n).latched.retryLimit ≤ (s.le n).retryCount + 1) :
    s.expireIn n m = ((s.count n .timerExpiry).modLE n (LinkEngine.makeDrop (s.le n).epoch)).endSession n
      (exhaustionCause m (s.le n).session) { drop := true } := by
  have hle : ((s.modLE n LinkEngine.retried).count n .timerExpiry).le n = (s.le n).retried := by
    rw [le_count, State.le_modLE_same]
  have hexpires : s.linkTimerExpires n m = ((s.modLE n LinkEngine.retried).count n .timerExpiry).exhaust n m :=
    if_pos hlimit
  have hdrop : ((s.modLE n LinkEngine.retried).count n .timerExpiry).modLE n (LinkEngine.makeDrop (s.le n).epoch) =
      ((s.count n .timerExpiry).modLE n (LinkEngine.makeDrop (s.le n).epoch)).modLE n LinkEngine.retried := by
    rw [← count_modLE, modLE_modLE, modLE_modLE]
    refine modLE_congr ?_
    rw [makeDrop_eq, makeDrop_eq]
    rfl
  rw [expireIn_of_due hdue, hexpires, State.exhaust, State.makeDrop, hle]
  exact (congrArg (State.endSession n _ _) hdrop).trans (endSession_modLE_retried n _ _ _)

theorem exhaustionCause_ne_none (m : TimerMode) (session : SessionState) : exhaustionCause m session ≠ .none := by
  cases m <;> cases session <;> decide

theorem sessionEnded_expireIn {s : State} {n : LinkId} {m : TimerMode} (h : LinkOwns s n) (hdue : (s.le n).DueIn m)
    (hlimit : (s.le n).latched.retryLimit ≤ (s.le n).retryCount + 1) :
    SessionEnded n (exhaustionCause m (s.le n).session) true false false
      (if (s.le n).pending.drop = true then (s.le n).dropEpoch else (s.le n).epoch) (s.count n .timerExpiry)
      (s.expireIn n m) := by
  have hended := sessionEnded_endSession_modLE { drop := true } (linkOwns_count h .timerExpiry)
    (exhaustionCause_ne_none m (s.le n).session) (makeDrop_eq (s.le n).epoch _)
  simp only [Bool.and_false, Bool.and_true, le_count] at hended
  rwa [expireIn_exhausted hdue hlimit]

/-- Settles O52: the exhaustion's session end in each mode, and in CONTROL mode its cause by the session state. -/
theorem exhaustionEndsTheSession : Obligations.ExhaustionEndsTheSession := by
  intro n s _ howners e ends due hlimit
  obtain ⟨-, hlinks, -⟩ := howners
  have hended := fun m (hdue : due m) => sessionEnded_expireIn (hlinks n) hdue hlimit
  refine ⟨fun hdue hsession => ⟨_, rfl, ?_⟩, fun hdue hsession => ⟨_, rfl, ?_⟩, fun hdue => ⟨_, rfl, hended .resend hdue⟩,
    fun hdue => ⟨_, rfl, hended .query hdue⟩⟩
  · have hopening := hended .control hdue
    rwa [hsession] at hopening
  · have hclosing := hended .control hdue
    rwa [hsession] at hclosing

end Sys2Proof.Machine
end

section
/-! Deliveries of one event, one after another: what they leave of the descriptors, of the link and of the flags, and how the receive
window moves on behind them (R134, R139, R167, R192, R196). -/

namespace Sys2Proof.Machine
open Sys2Proof.Safety

/-! ## One delivery (R139, R167) -/

/-- A descriptor that has joined the delivery queue. -/
def Descriptor.deliveredAs (held : Bool) (r : Descriptor) : Descriptor :=
  { r with state := .delivered, held := some held }

/-- A Link Engine whose E has advanced past one ordinal. -/
def LinkEngine.advanced (e : LinkEngine) : LinkEngine := { e with expected := e.expected + 1 }

/-- A link after one delivery: E advances and the delivery is counted. -/
def Link.delivered (l : Link) : Link := { l.counted .dataDelivered with le := l.le.advanced }

/-- A counter at `c` passes from 32,767 to 32,768 within `k` occurrences (R196). -/
def passesHalf (c k : Nat) : Bool := decide (c ≤ 32767 ∧ 32768 ≤ c + k)

theorem passesHalf_iff (c k : Nat) : passesHalf c k = true ↔ c ≤ 32767 ∧ 32768 ≤ c + k := decide_eq_true_iff

theorem passesHalf_succ_iff (c k : Nat) : passesHalf c (k + 1) = true ↔ c ≤ 32767 ∧ 32768 ≤ c + 1 + k := by
  rw [passesHalf_iff, Nat.add_assoc, Nat.add_comm 1]

theorem passesHalf_zero (c : Nat) : passesHalf c 0 = false := decide_eq_false (by omega)

theorem passesHalf_one (c : Nat) : passesHalf c 1 = decide (c = 32767) := decide_eq_decide.mpr (by omega)

/-- The passage is at the first occurrence or after it. -/
theorem passesHalf_succ (c k : Nat) :
    passesHalf c (k + 1) = (passesHalf c 1 || passesHalf (min 65535 (c + 1)) k) := by
  rw [Bool.eq_iff_iff, Bool.or_eq_true, passesHalf_iff, passesHalf_iff, passesHalf_iff]
  omega

/-- The global flags that `k` deliveries on a link Set, its counter standing at `c` before (R180, R196). -/
def deliveryFlags (c k : Nat) : BitVec 6 := (if k = 0 then 0 else 0x01) ||| (if passesHalf c k then 0x08 else 0)

theorem deliveryFlags_zero (c : Nat) : deliveryFlags c 0 = 0 := by simp [deliveryFlags, passesHalf_zero]

theorem deliveryFlags_succ (c k : Nat) : deliveryFlags c (k + 1) = if passesHalf c (k + 1) then 0x09 else 0x01 := by
  unfold deliveryFlags
  rw [if_neg (Nat.succ_ne_zero k)]
  split <;> rfl

/-- The flags of the first delivery and of those behind it. -/
theorem deliveryFlags_one_or (c k : Nat) :
    deliveryFlags c 1 ||| deliveryFlags (min 65535 (c + 1)) k = deliveryFlags c (k + 1) := by
  rw [deliveryFlags_succ c 0, deliveryFlags_succ c k, passesHalf_succ c k]
  cases k with
  | zero => simp [deliveryFlags_zero, passesHalf_zero]
  | succ k =>
    rw [deliveryFlags_succ]
    cases passesHalf c (0 + 1) <;> cases passesHalf (min 65535 (c + 1)) (k + 1) <;> rfl

/-- The part after the deliveries of the descriptors `ds`, link `n` changed by `f` and the descriptors being `descs`. -/
def State.withDeliveries (n : LinkId) (f : Link → Link) (ds : List DescId) (descs : Vector Descriptor 64) (s : State) :
    State :=
  { s.modLink n f with
    delivery := s.delivery ++ ds
    descs := descs
    globalEvents := s.globalEvents ||| deliveryFlags ((s.link n).counters.get 2) ds.length }

theorem link_withDeliveries (n m : LinkId) (f : Link → Link) (ds : List DescId) (descs : Vector Descriptor 64) (s : State) :
    (s.withDeliveries n f ds descs).link m = if m = n then f (s.link n) else s.link m := State.link_modLink n m f s

theorem modLink_withDeliveries (n : LinkId) (f g : Link → Link) (ds : List DescId) (descs : Vector Descriptor 64)
    (s : State) : (s.withDeliveries n f ds descs).modLink n g = s.withDeliveries n (fun l => g (f l)) ds descs := by
  unfold State.withDeliveries
  rw [← modLink_modLink n f g s]
  rfl

/-- A change of the link that leaves its counters alone may come before the deliveries. -/
theorem withDeliveries_modLink (n : LinkId) {f : Link → Link} (g : Link → Link) (ds : List DescId)
    (descs : Vector Descriptor 64) {s : State} (h : (f (s.link n)).counters = (s.link n).counters) :
    (s.modLink n f).withDeliveries n g ds descs = s.withDeliveries n (fun l => g (f l)) ds descs := by
  unfold State.withDeliveries
  rw [State.link_modLink_same, h, modLink_modLink]
  rfl

/-- One delivery and then others. -/
theorem withDeliveries_delivered (n : LinkId) (g : Link → Link) (d : DescId) (ds : List DescId)
    (first descs : Vector Descriptor 64) (s : State) :
    (s.withDeliveries n Link.delivered [d] first).withDeliveries n g ds descs =
      s.withDeliveries n (fun l => g l.delivered) (d :: ds) descs := by
  have hcounter : (s.link n).delivered.counters.get 2 = min 65535 ((s.link n).counters.get 2 + 1) :=
    get_counters_counted .dataDelivered (s.link n) 2
  have hlink : (s.withDeliveries n Link.delivered [d] first).link n = (s.link n).delivered := by
    rw [link_withDeliveries, if_pos rfl]
  rw [State.withDeliveries, modLink_withDeliveries, hlink, hcounter]
  unfold State.withDeliveries
  rw [List.length_cons (as := ds), ← deliveryFlags_one_or, ← BitVec.or_assoc, List.append_cons s.delivery d ds]
  rfl

/-- One delivery of a descriptor that is not FREE. -/
theorem appendDelivery_eq {n : LinkId} {held : Bool} {d : DescId} {s : State} (h : (s.desc d).state ≠ .free) :
    s.appendDelivery n held d =
      s.withDeliveries n Link.delivered [d] (s.descs.set d ((s.desc d).deliveredAs held)) := by
  have hmark := modDesc_eq (s := { s with delivery := s.delivery ++ [d] }) h (Descriptor.deliveredAs held)
  have hflags : deliveryFlags ((s.link n).counters.get 2) 1 =
      GlobalEvent.deliveryReady.bit ||| if (s.link n).counters.get 2 = 32767 then 0x08 else 0 := by
    simp only [deliveryFlags, passesHalf_one, decide_eq_true_eq]
    rfl
  have hcounters : ((s.modLE n LinkEngine.advanced).link n).counters = (s.link n).counters := by
    rw [State.modLE, State.link_modLink_same]
  have hlinks : (s.modLE n LinkEngine.advanced).modLink n (Link.counted .dataDelivered) = s.modLink n Link.delivered :=
    modLink_modLink n _ _ s
  have hsteps : s.appendDelivery n held d = ({ s.modLE n LinkEngine.advanced with
      delivery := s.delivery ++ [d]
      descs := s.descs.set d ((s.desc d).deliveredAs held) }.setGlobal .deliveryReady).count n .dataDelivered :=
    congrArg (fun t : State => ((t.modLE n LinkEngine.advanced).setGlobal .deliveryReady).count n .dataDelivered) hmark
  rw [hsteps, count_eq, State.withDeliveries, List.length_singleton, hflags, ← BitVec.or_assoc, ← hcounters, ← hlinks]
  rfl

/-! ## Deliveries one after another (R139) -/

/-- The deliveries of one event, each with its *held* field. -/
def State.deliverList (n : LinkId) (held : DescId → Bool) (ds : List DescId) (s : State) : State :=
  ds.foldl (fun s x => s.appendDelivery n (held x) x) s

theorem deliverList_cons (n : LinkId) (held : DescId → Bool) (d : DescId) (ds : List DescId) (s : State) :
    s.deliverList n held (d :: ds) = (s.appendDelivery n (held d) d).deliverList n held ds := rfl

theorem desc_appendDelivery {n : LinkId} {held : Bool} {d : DescId} {s : State} (h : (s.desc d).state ≠ .free) (x : DescId) :
    (s.appendDelivery n held d).desc x = if x = d then (s.desc d).deliveredAs held else s.desc x := by
  rw [appendDelivery_eq h]
  exact State.desc_setDesc d x _ s

section
variable {n : LinkId} {held : DescId → Bool}

theorem held_after_appendDelivery {d : DescId} {ds : List DescId} {s : State}
    (hheld : ∀ x ∈ d :: ds, (s.desc x).state ≠ .free) :
    ∀ x ∈ ds, ((s.appendDelivery n (held d) d).desc x).state ≠ .free := by
  intro x hx
  rw [desc_appendDelivery (hheld d List.mem_cons_self)]
  split
  · exact nofun
  · exact hheld x (List.mem_cons_of_mem d hx)

theorem desc_deliverList (ds : List DescId) : ∀ {s : State}, (∀ x ∈ ds, (s.desc x).state ≠ .free) → ∀ x,
    (s.deliverList n held ds).desc x = if x ∈ ds then (s.desc x).deliveredAs (held x) else s.desc x := by
  induction ds with
  | nil => intro s _ x; rfl
  | cons d ds ih =>
    intro s hheld x
    rw [deliverList_cons, ih (held_after_appendDelivery hheld), desc_appendDelivery (hheld d List.mem_cons_self)]
    by_cases hx : x = d
    · subst hx
      simp [Descriptor.deliveredAs]
    · simp [hx]

/-- Everything but the descriptors after several deliveries. -/
theorem deliverList_eq (ds : List DescId) : ∀ {s : State}, (∀ x ∈ ds, (s.desc x).state ≠ .free) →
    ∃ descs, s.deliverList n held ds = s.withDeliveries n Link.delivered^[ds.length] ds descs := by
  induction ds with
  | nil =>
    intro s _
    have hevents : s.globalEvents ||| (0 : BitVec 6) = s.globalEvents := BitVec.or_zero
    refine ⟨s.descs, ?_⟩
    rw [State.withDeliveries, List.length_nil, deliveryFlags_zero, modLink_eq_self rfl, List.append_nil, hevents]
    rfl
  | cons d ds ih =>
    intro s hheld
    obtain ⟨descs, hrest⟩ := ih (held_after_appendDelivery (n := n) (held := held) hheld)
    refine ⟨descs, ?_⟩
    rw [deliverList_cons, hrest, appendDelivery_eq (hheld d List.mem_cons_self)]
    exact withDeliveries_delivered n _ d ds _ descs s

/-! ## A link after several deliveries (R139, R192, R196) -/

/-- Several deliveries advance E and change the counters and the half flag, and nothing else of the link. -/
theorem delivered_iterate_frame (k : Nat) (l : Link) : Link.delivered^[k] l = { l with
    le := { l.le with expected := l.le.expected + BitVec.ofNat 6 k }
    counters := (Link.delivered^[k] l).counters
    half := (Link.delivered^[k] l).half } := by
  induction k with
  | zero => simp
  | succ k ih =>
    rw [Function.iterate_succ_apply']
    have hexpected : l.le.expected + BitVec.ofNat 6 (k + 1) = l.le.expected + BitVec.ofNat 6 k + 1 := by
      rw [BitVec.ofNat_add, BitVec.add_assoc]
      rfl
    rw [hexpected]
    generalize Link.delivered^[k] l = m at ih
    rw [ih]
    rfl

theorem get_counters_delivered_iterate (k : Nat) (l : Link) (i : Fin 14) :
    (Link.delivered^[k + 1] l).counters.get i =
      if i = 2 then min 65535 (l.counters.get 2 + (k + 1)) else l.counters.get i := by
  have hstep : ∀ m : Link, m.delivered.counters.get i = if i = 2 then min 65535 (m.counters.get 2 + 1) else m.counters.get i :=
    fun m => get_counters_counted .dataDelivered m i
  induction k with
  | zero => exact hstep l
  | succ k ih =>
    rw [Function.iterate_succ_apply', hstep]
    by_cases hi : i = 2
    · subst hi
      simp only [if_true] at ih ⊢
      omega
    · rw [if_neg hi, ih, if_neg hi, if_neg hi]

theorem half_delivered_iterate (k : Nat) : ∀ l : Link,
    (Link.delivered^[k] l).half = (l.half || passesHalf (l.counters.get 2) k) := by
  induction k with
  | zero => intro l; simp [passesHalf_zero]
  | succ k ih =>
    intro l
    have hcounter : l.delivered.counters.get 2 = min 65535 (l.counters.get 2 + 1) :=
      get_counters_counted .dataDelivered l 2
    have hhalf : l.delivered.half = (l.half || passesHalf (l.counters.get 2) 1) := by
      rw [passesHalf_one]
      rfl
    rw [Function.iterate_succ_apply, ih, hcounter, hhalf, passesHalf_succ _ k, Bool.or_assoc]

end

/-! ## The receive window moves on (R134, R139) -/

theorem length_advanceWindow {w : List (Option DescId)} (h : w.length = 7) (k : Nat) : (advanceWindow k w).length = 7 := by
  simp only [advanceWindow, List.length_take, List.length_append, List.length_drop, List.length_replicate]
  omega

theorem getElem?_advanceWindow {w : List (Option DescId)} (h : w.length = 7) (k : Nat) {i : Nat} (hi : i < 7) :
    (advanceWindow k w)[i]? = some ((w[i + k + 1]?).join) := by
  rw [advanceWindow, List.getElem?_take_of_lt hi, List.getElem?_append, List.length_drop, h, List.getElem?_drop]
  have hindex : k + 1 + i = i + k + 1 := by omega
  split
  · rename_i hinside
    rw [hindex, List.getElem?_eq_getElem (by omega), Option.join_some]
  · rename_i hbeyond
    rw [List.getElem?_replicate, if_pos (by omega), List.getElem?_eq_none (by omega)]
    rfl

theorem mem_promoted (w : List (Option DescId)) (x : DescId) : x ∈ promoted w ↔ some x ∈ w.takeWhile Option.isSome := by
  simp [promoted]

theorem length_promoted (w : List (Option DescId)) : (promoted w).length = (w.takeWhile Option.isSome).length :=
  List.filterMap_length_eq_length.mpr fun _ hx => List.mem_takeWhile_imp hx

end Sys2Proof.Machine
end

section
/-! The family of chapter 7: an arriving DATA parcel, delivered with the parcels held behind it, held, or dropped (R77, R134, R135,
R138-R143, R145-R147, R167). -/

namespace Sys2Proof.Machine
open Sys2Proof.Safety

/-! ## The classification by offset (R138) -/

section
variable {e : LinkEngine} {o : Ordinal}

theorem classify_of_expected (h : (o - e.expected).toNat = 0) : e.classify o = .deliver := if_pos h

/-- An offset of 1..7 is judged by the window's entry. -/
theorem classify_of_window {i : Nat} (h : (o - e.expected).toNat = i + 1) (hi : i < 7) :
    e.classify o = if (e.window.getD i none).isSome then .dup else .hold (i + 1) := by
  unfold LinkEngine.classify offsetFrom
  simp only [h]
  rw [if_neg (by omega), if_pos (by omega), Nat.add_sub_cancel]
  cases e.window.getD i none <;> rfl

theorem classify_of_empty {i : Nat} (h : (o - e.expected).toNat = i + 1) (hi : i < 7) (hentry : e.window[i]? = some none) :
    e.classify o = .hold (i + 1) := by
  rw [classify_of_window h hi, List.getD_eq_getElem?_getD, hentry]
  rfl

theorem classify_of_occupied {i : Nat} {x : DescId} (h : (o - e.expected).toNat = i + 1) (hi : i < 7)
    (hentry : e.window[i]? = some (some x)) : e.classify o = .dup := by
  rw [classify_of_window h hi, List.getD_eq_getElem?_getD, hentry]
  rfl

/-- Beyond the window the offset alone judges: the last eight of the 64 are ordinals already delivered. -/
theorem classify_of_beyond (h : 8 ≤ (o - e.expected).toNat) :
    e.classify o = if 56 ≤ (o - e.expected).toNat then .dup else .outwin := by
  unfold LinkEngine.classify offsetFrom
  simp only
  rw [if_neg (by omega), if_neg (by omega)]

end

/-! ## The hand-off (R43, R53) -/

theorem le_modLink_recordIs (n m : LinkId) (s : State) : (s.modLink n (recordIs {})).le m = s.le m :=
  State.le_modLU n m LineUnit.toHunt s

theorem exec_receiveData_of_stored {n : LinkId} {s : State} {d : DescId} (hd : (s.lu n).record.descriptor = some d)
    (hstorage : (s.lu n).record.storage = some .storing) (hlive : (s.le n).session.live = true) :
    exec (.receiveData n) s = .next ((s.modLink n (recordIs {})).takeData n d) := by
  change execReceiveData n s = _
  rw [execReceiveData, hd]
  exact if_pos ⟨hstorage, hlive⟩

/-- Without a stored parcel of a live session nothing is handed over (R53). -/
theorem exec_receiveData_of_not_stored {n : LinkId} {s : State}
    (h : (s.lu n).record.descriptor = none ∨ (s.lu n).record.storage ≠ some .storing ∨ ¬ (s.le n).session.live = true) :
    exec (.receiveData n) s = .next s := by
  change execReceiveData n s = _
  unfold execReceiveData
  split
  · rename_i d hd
    refine if_neg fun hstored => ?_
    obtain ⟨hstorage, hlive⟩ := hstored
    simp [hd, hstorage, hlive] at h
  · rfl

theorem takeData_of_stale {n : LinkId} {d : DescId} {s : State} (h : (s.desc d).epoch ≠ some (s.le n).epoch) :
    s.takeData n d = s.dropData n d .stale := if_neg h

/-- What a parcel of the current epoch comes to, by its class (R138). -/
def State.takeAs (n : LinkId) (d : DescId) (s : State) : Classification → State
  | .deliver => s.deliver n d
  | .hold k => s.hold n d k
  | .dup => (s.dropData n d .dup).makeReceipt n
  | .outwin => (s.dropData n d .outwin).makeReceipt n

/-- A parcel of the current epoch is taken by its class, after the sign of life (R77, R138). -/
theorem takeData_of_epoch {n : LinkId} {d : DescId} {s : State} {o : Ordinal} (h : (s.desc d).epoch = some (s.le n).epoch)
    (ho : (s.desc d).ordinal = some o) :
    s.takeData n d = (s.modLE n LinkEngine.signOfLife).takeAs n d ((s.le n).classify o) := by
  unfold State.takeData
  rw [if_pos h, ho, Option.getD_some]
  cases (s.le n).classify o <;> rfl

/-! ## What an acceptance and a sign of life change (R77, R135, R145-R147) -/

/-- The sign of life changes the retry count alone. -/
theorem signOfLife_eq (e : LinkEngine) :
    e.signOfLife = { e with retryCount := if e.session = .closing then 0 else e.retryCount } := by
  unfold LinkEngine.signOfLife
  split <;> rfl

@[simp] theorem window_signOfLife (e : LinkEngine) : e.signOfLife.window = e.window := by rw [signOfLife_eq]

@[simp] theorem expected_signOfLife (e : LinkEngine) : e.signOfLife.expected = e.expected := by rw [signOfLife_eq]

/-- A Link Engine after an acceptance, its three reasons for a receipt side by side. -/
def LinkEngine.accepting (e : LinkEngine) : LinkEngine :=
  { e with
    accepted := min 8 (e.accepted + 1)
    holdTimer := if e.accepted = 0 ∧ 0 < e.latched.holdTime then some 0 else e.holdTimer
    pending := { e.pending with
      receipt := e.pending.receipt || decide (e.latched.threshold ≤ min 8 (e.accepted + 1)) ||
        decide (e.latched.holdTime = 0) } }

theorem accept_eq (e : LinkEngine) : e.accept = e.accepting := by
  unfold LinkEngine.accept LinkEngine.accepting
  simp only [Bool.or_assoc, beq_eq_decide]

/-! ## A delivery with its promotions (R139) -/

theorem deliver_eq {n : LinkId} {d : DescId} {s : State} (h : d ∉ promoted (s.le n).window) :
    s.deliver n d = (s.deliverList n (fun x => decide (x ≠ d)) (d :: promoted (s.le n).window)).modLE n fun e =>
      { e with window := advanceWindow (promoted (s.le n).window).length e.window }.accepting := by
  have hpromoted : (promoted (s.le n).window).foldl (fun t x => t.appendDelivery n true x) (s.appendDelivery n false d) =
      s.deliverList n (fun x => decide (x ≠ d)) (d :: promoted (s.le n).window) := by
    have hfirst : decide (d ≠ d) = false := by simp
    rw [State.deliverList, List.foldl_cons, hfirst]
    refine List.foldl_ext _ _ _ fun t x hx => ?_
    have hne : decide (x ≠ d) = true := decide_eq_true fun heq => h (heq ▸ hx)
    rw [hne]
  unfold State.deliver
  simp only [hpromoted, accept_eq]

/-- The link of a delivery with `k` promotions behind it. -/
def Link.deliveredWith (k : Nat) (l : Link) : Link :=
  let m := Link.delivered^[k + 1] l
  { m with le := { m.le with window := advanceWindow k m.le.window }.accepting }

/-- A delivery with its promotions, but for the descriptors. -/
theorem deliver_frame {n : LinkId} {d : DescId} {s : State} (h : d ∉ promoted (s.le n).window)
    (hheld : ∀ x ∈ d :: promoted (s.le n).window, (s.desc x).state ≠ .free) :
    ∃ descs, s.deliver n d = s.withDeliveries n (Link.deliveredWith (promoted (s.le n).window).length)
      (d :: promoted (s.le n).window) descs := by
  obtain ⟨descs, hlist⟩ := deliverList_eq (n := n) (held := fun x => decide (x ≠ d)) _ hheld
  refine ⟨descs, ?_⟩
  rw [deliver_eq h, hlist]
  exact modLink_withDeliveries n _ _ _ descs s

theorem desc_deliver {n : LinkId} {d : DescId} {s : State} (h : d ∉ promoted (s.le n).window)
    (hheld : ∀ x ∈ d :: promoted (s.le n).window, (s.desc x).state ≠ .free) (x : DescId) :
    (s.deliver n d).desc x = if x ∈ d :: promoted (s.le n).window then (s.desc x).deliveredAs (decide (x ≠ d))
      else s.desc x := by
  rw [deliver_eq h, State.desc_modLE, desc_deliverList _ hheld]

theorem get_counters_deliveredWith (k : Nat) (l : Link) (i : Fin 14) :
    (l.deliveredWith k).counters.get i = if i = 2 then min 65535 (l.counters.get 2 + 1 + k) else l.counters.get i := by
  rw [Nat.add_assoc, Nat.add_comm 1]
  exact get_counters_delivered_iterate k l i

theorem half_deliveredWith (k : Nat) (l : Link) :
    (l.deliveredWith k).half = (l.half || passesHalf (l.counters.get 2) (k + 1)) := half_delivered_iterate (k + 1) l

/-- Of its link a delivery changes the Link Engine, the counters and the half flag. -/
theorem deliveredWith_eq (k : Nat) (l : Link) : l.deliveredWith k = { l with
    le := { l.le.accepting with
      expected := l.le.expected + 1 + BitVec.ofNat 6 k, window := advanceWindow k l.le.window }
    counters := (l.deliveredWith k).counters
    half := (l.deliveredWith k).half } := by
  have hexpected : l.le.expected + 1 + BitVec.ofNat 6 k = l.le.expected + BitVec.ofNat 6 (k + 1) := by
    rw [BitVec.ofNat_add, BitVec.add_assoc, BitVec.add_comm (1 : Ordinal)]
    rfl
  have hframe := delivered_iterate_frame (k + 1) l
  rw [hexpected, Link.deliveredWith]
  generalize Link.delivered^[k + 1] l = m at hframe
  rw [hframe]
  rfl

/-! ## The parcel out of its receive record (R43, R77) -/

/-- A link with its receive record in HUNT and the sign of life taken. -/
def Link.handedOver (l : Link) : Link := { recordIs {} l with le := l.le.signOfLife }

/-- The part with the parcel out of link `n`'s receive record and its sign of life taken. -/
def State.handedOver (n : LinkId) (s : State) : State := s.modLink n Link.handedOver

theorem handedOver_eq (n : LinkId) (s : State) :
    (s.modLink n (recordIs {})).modLE n LinkEngine.signOfLife = s.handedOver n := modLink_modLink n _ _ s

/-- A delivery on that link, with the Link Engine as it was before the parcel. -/
theorem deliveredWith_handedOver (k : Nat) (l : Link) : l.handedOver.deliveredWith k = { recordIs {} l with
    le := { l.le.signOfLife.accepting with
      expected := l.le.expected + 1 + BitVec.ofNat 6 k, window := advanceWindow k l.le.window }
    counters := (l.handedOver.deliveredWith k).counters
    half := (l.handedOver.deliveredWith k).half } := by
  have hexpected : l.handedOver.le.expected = l.le.expected := expected_signOfLife l.le
  have hwindow : l.handedOver.le.window = l.le.window := window_signOfLife l.le
  have hframe := deliveredWith_eq k l.handedOver
  rwa [hexpected, hwindow] at hframe

theorem window_handedOver (n : LinkId) (s : State) : ((s.handedOver n).le n).window = (s.le n).window := by
  rw [State.le, State.handedOver, State.link_modLink_same]
  exact window_signOfLife (s.le n)

theorem exec_receiveData_of_epoch {n : LinkId} {s : State} {d : DescId} {o : Ordinal}
    (hd : (s.lu n).record.descriptor = some d) (hstorage : (s.lu n).record.storage = some .storing)
    (hlive : (s.le n).session.live = true) (hepoch : (s.desc d).epoch = some (s.le n).epoch)
    (ho : (s.desc d).ordinal = some o) :
    exec (.receiveData n) s = .next ((s.handedOver n).takeAs n d ((s.le n).classify o)) := by
  have hclass := takeData_of_epoch (s := s.modLink n (recordIs {})) (hepoch.trans (by rw [le_modLink_recordIs])) ho
  rw [exec_receiveData_of_stored hd hstorage hlive, hclass, le_modLink_recordIs, handedOver_eq]

/-- A parcel held at its offset (R140). -/
theorem hold_handedOver {n : LinkId} {s : State} {d : DescId} (h : (s.desc d).state ≠ .free) (i : Nat) :
    (s.handedOver n).hold n d (i + 1) = { s.modLink n (recordIs {}) with
      descs := s.descs.set d { s.desc d with state := .held, held := some false } }.modLE n fun e =>
        { e.signOfLife.accepting with
          window := e.window.set i (some d), pending := { e.signOfLife.accepting.pending with receipt := true } } := by
  have hmark := modDesc_eq (s := s.handedOver n) h fun r => { r with state := .held, held := some false }
  unfold State.hold State.makeReceipt
  rw [hmark, ← handedOver_eq]
  refine (modLE_modLE n _ _ _).trans ((modLE_modLE n LinkEngine.signOfLife _ { s.modLink n (recordIs {}) with
      descs := s.descs.set d { s.desc d with state := .held, held := some false } }).trans ?_)
  simp only [accept_eq, window_signOfLife, Nat.add_sub_cancel]
  rfl

theorem state_of_promoted {n : LinkId} {s : State} (h : LinkOwns s n) {x : DescId} (hx : x ∈ promoted (s.le n).window) :
    (s.desc x).state = .held := by
  obtain ⟨-, -, -, howns⟩ := h
  obtain ⟨-, -, hwindow, -⟩ := howns x
  have hentry : some x ∈ (s.le n).window := (List.takeWhile_sublist _).mem ((mem_promoted _ x).mp hx)
  exact (hwindow.mp hentry).1

section
variable {n : LinkId} {s : State} {d : DescId}

theorem not_promoted (h : LinkOwns s n) (hd : (s.lu n).record.descriptor = some d) : d ∉ promoted (s.le n).window := by
  intro hpromoted
  have hassembling := (assembling_of_linkOwns h hd).1
  rw [state_of_promoted h hpromoted] at hassembling
  cases hassembling

theorem held_of_arriving (h : LinkOwns s n) (hd : (s.lu n).record.descriptor = some d) :
    ∀ x ∈ d :: promoted (s.le n).window, (s.desc x).state ≠ .free := by
  intro x hx
  rcases List.mem_cons.mp hx with rfl | hx
  · rw [(assembling_of_linkOwns h hd).1]
    nofun
  · rw [state_of_promoted h hx]
    nofun

/-- The parcel at offset 0 with its promotions, but for the descriptors. -/
theorem deliver_handedOver (h : LinkOwns s n) (hd : (s.lu n).record.descriptor = some d) :
    ∃ descs, (s.handedOver n).deliver n d =
      s.withDeliveries n (fun l => l.handedOver.deliveredWith (promoted (s.le n).window).length)
        (d :: promoted (s.le n).window) descs := by
  obtain ⟨descs, hframe⟩ := deliver_frame (s := s.handedOver n) (window_handedOver n s ▸ not_promoted h hd)
    (window_handedOver n s ▸ held_of_arriving h hd)
  refine ⟨descs, ?_⟩
  rw [hframe, window_handedOver]
  exact withDeliveries_modLink n _ _ descs rfl

theorem desc_deliver_handedOver (h : LinkOwns s n) (hd : (s.lu n).record.descriptor = some d) (x : DescId) :
    ((s.handedOver n).deliver n d).desc x =
      if x = d then (s.desc x).deliveredAs false
      else if some x ∈ (s.le n).window.takeWhile Option.isSome then (s.desc x).deliveredAs true
      else s.desc x := by
  have hdesc := desc_deliver (s := s.handedOver n) (window_handedOver n s ▸ not_promoted h hd)
    (window_handedOver n s ▸ held_of_arriving h hd) x
  rw [hdesc, window_handedOver]
  by_cases hx : x = d
  · subst hx
    simp [State.handedOver]
  · simp [State.handedOver, hx, mem_promoted]

end

/-- Settles O53: the hand-off by the class of the parcel's offset. -/
theorem arrivingDataByOffset : Obligations.ArrivingDataByOffset := by
  intro n s e live alive accepted
  have hlive_iff : live ↔ e.session.live = true := (live_iff _).symm
  refine ⟨fun h => exec_receiveData_of_not_stored (by rwa [← hlive_iff]), ?_⟩
  intro d o hd hstorage hlive ho _ howners hlength hunt offset held
  obtain ⟨-, hlinks, -⟩ := howners
  have hassembling : (s.desc d).state = .assembling := (assembling_of_linkOwns (hlinks n) hd).1
  have hfree : (s.desc d).state ≠ .free := hassembling ▸ nofun
  have hexec := fun hepoch => exec_receiveData_of_epoch hd hstorage (hlive_iff.mp hlive) hepoch ho
  refine ⟨fun hstale => ?stale, fun hepoch => ⟨fun hoffset => ?deliver, fun i hoffset hentry => ?hold, fun hdup => ?dup,
      fun hlow hhigh => ?outwin⟩⟩
  case stale =>
    have hclass : hunt.takeData n d = hunt.dropData n d .stale :=
      takeData_of_stale (by rw [le_modLink_recordIs]; exact hstale)
    rw [exec_receiveData_of_stored hd hstorage (hlive_iff.mp hlive), hclass]
    exact ⟨_, releasedOnly_releaseToFree hfree, rfl⟩
  case deliver =>
    have hk : (promoted (s.le n).window).length = held.length := length_promoted e.window
    have hdesc := desc_deliver_handedOver (hlinks n) hd
    have hcounters := get_counters_deliveredWith held.length (s.link n).handedOver
    have harrived : hunt.link n = recordIs {} (s.link n) := State.link_modLink_same n _ s
    obtain ⟨descs, hframe⟩ := deliver_handedOver (hlinks n) hd
    rw [hk] at hframe
    have hlink : ∀ m, ((s.handedOver n).deliver n d).link m =
        if m = n then (s.link n).handedOver.deliveredWith held.length else s.link m :=
      fun m => hframe ▸ link_withDeliveries n m _ _ descs s
    have hlinkn := (hlink n).trans (if_pos rfl)
    rw [deliveredWith_handedOver] at hlinkn
    have hwindow : (((s.handedOver n).deliver n d).le n).window = advanceWindow held.length e.window :=
      congrArg (fun l : Link => l.le.window) hlinkn
    rw [hexec hepoch, classify_of_expected hoffset]
    refine ⟨(s.handedOver n).deliver n d, rfl, ?delivery, ?arrived, ?promoted, ?others, fun i hi => ?window, ?length,
      ⟨advanceWindow held.length e.window, ((s.link n).handedOver.deliveredWith held.length).counters,
        ((s.link n).handedOver.deliveredWith held.length).half, harrived ▸ hlinkn, hcounters 2, ?counters, ?half, ?events⟩,
      fun m hm => ?links, ?frame⟩
    case delivery => rw [hframe]; rfl
    case arrived => rw [hdesc, if_pos rfl]; rfl
    case promoted =>
      intro x hx
      have hne : x ≠ d := by
        rintro rfl
        exact not_promoted (hlinks n) hd ((mem_promoted _ x).mpr hx)
      rw [hdesc, if_neg hne, if_pos hx]
      rfl
    case others =>
      intro x hne hx
      rw [hdesc, if_neg hne, if_neg hx]
    case window => rw [hwindow, getElem?_advanceWindow hlength _ hi]
    case length => rw [hwindow, length_advanceWindow hlength]
    case counters =>
      intro c hc
      exact (hcounters c).trans (if_neg hc)
    case half =>
      rw [half_deliveredWith, Bool.or_eq_true, passesHalf_succ_iff]
      rfl
    case events =>
      rw [hframe]
      change s.globalEvents ||| deliveryFlags ((s.link n).counters.get 2) ((promoted (s.le n).window).length + 1) = _
      simp only [hk, deliveryFlags_succ, passesHalf_succ_iff]
      split <;> rfl
    case links => rw [hlink, if_neg hm]
    case frame => rw [hframe]; rfl
  case hold =>
    have hi : i < 7 := hlength ▸ (List.getElem?_eq_some_iff.mp hentry).1
    rw [hexec hepoch, classify_of_empty hoffset hi hentry]
    exact congrArg Host.Outcome.next (hold_handedOver hfree i)
  case dup =>
    have hclass : e.classify o = .dup := by
      rcases hdup with ⟨i, x, hoffset, hentry⟩ | hlast
      · have hi : i < 7 := hlength ▸ (List.getElem?_eq_some_iff.mp hentry).1
        exact classify_of_occupied hoffset hi hentry
      · rw [classify_of_beyond (by omega), if_pos hlast]
    rw [hexec hepoch, hclass, ← handedOver_eq]
    exact ⟨_, releasedOnly_releaseToFree hfree, rfl⟩
  case outwin =>
    rw [hexec hepoch, classify_of_beyond hlow, if_neg (by omega), ← handedOver_eq]
    exact ⟨_, releasedOnly_releaseToFree hfree, rfl⟩

end Sys2Proof.Machine
end

section
/-! The family of chapter 8: BEGIN, STAGE DATA, COMMIT and CANCEL, and the host's side of the delivery and completion queues
(R160-R165, R169-R171, R175). -/

namespace Sys2Proof.Machine
open Sys2Proof.Safety

/-! ## BEGIN (R160) -/

theorem linkOf_eq_none {number : BitVec 4} (h : 4 ≤ number.toNat) : linkOf number = none :=
  dif_neg (Nat.not_lt.mpr h)

theorem SessionState.staging_iff (st : SessionState) : st.staging = true ↔ st = .opening ∨ st = .open_ := by
  cases st <;> simp [SessionState.staging]

/-- A claim is refused where no descriptor is free or its blocks are not grantable (R9, R10, R14). -/
theorem claim_eq_none {s : State} {n : LinkId} {len : Nat} (hlen : 1 ≤ len)
    (h : s.freeDescs = [] ∨ s.grantableBlocks n < (len + 63) / 64) (fill : Descriptor) : s.claim n len fill = none := by
  rw [← Option.not_isSome_iff_eq_none, claim_isSome_iff, claimGranted_iff s n len hlen]
  rintro ⟨hdescs, hblocks⟩
  rcases h with hnil | hlow
  · exact hdescs hnil
  · exact Nat.not_le.mpr hlow hblocks

/-- BEGIN with no context open and a link number in range goes on to its other tests (R160). -/
theorem exec_beginStaging {link : BitVec 4} {n : LinkId} {s : State} (hclosed : s.staging = none)
    (hlink : link.toNat = n.val) : exec (.beginStaging link) s = .next (s.beginOn n) := by
  simp [exec, execBeginStaging, hclosed, linkOf_eq_some hlink]

section
variable {s : State} {n : LinkId}

theorem beginOn_of_length_out_of_range (h : s.argumentA.toNat = 0 ∨ 240 < s.argumentA.toNat) :
    s.beginOn n = s.setResult 6 .badarg := by
  have hrange : lengthInRange s.argumentA.toNat = false := by
    rw [Bool.eq_false_iff, ne_eq, lengthInRange_iff]
    omega
  simp [State.beginOn, hrange]

variable (hlen : 1 ≤ s.argumentA.toNat ∧ s.argumentA.toNat ≤ 240)
include hlen

theorem beginOn_of_not_staging (h : ¬ ((s.le n).session = .opening ∨ (s.le n).session = .open_)) :
    s.beginOn n = s.setResult 6 .badstate := by
  rw [← SessionState.staging_iff] at h
  simp [State.beginOn, (lengthInRange_iff _).mpr hlen, h]

variable (hsession : (s.le n).session = .opening ∨ (s.le n).session = .open_)
include hsession

theorem beginOn_of_claim_refused
    (h : s.claim n s.argumentA.toNat (stagedFill n s.argumentA.toNat s.argumentB) = none) :
    s.beginOn n = s.setResult 6 .noroom := by
  simp [State.beginOn, (lengthInRange_iff _).mpr hlen, (SessionState.staging_iff _).mpr hsession, h]

theorem beginOn_of_claim_granted {d : DescId} {claimed : State}
    (h : s.claim n s.argumentA.toNat (stagedFill n s.argumentA.toNat s.argumentB) = some (d, claimed)) :
    s.beginOn n =
      { claimed with
        staging := some { link := n, length := s.argumentA.toNat, tag := s.argumentB, descriptor := d, writeCount := 0 }
        resultCommand := 6
        resultCode := .done } := by
  simp [State.beginOn, (lengthInRange_iff _).mpr hlen, (SessionState.staging_iff _).mpr hsession, h, State.setResult]

end

/-- Settles O18: one equation of BEGIN for each of its tests. -/
theorem beginTestsInOrder : Obligations.BeginTestsInOrder := by
  intro link s len
  refine ⟨fun hopen => ?busy, fun hclosed => ⟨fun hbad => ?badarg, fun n hlink hlow hhigh =>
    ⟨fun hsession => ?badstate, fun hsession => ⟨fun hroom => ?noroom, fun ⟨hdescs, hblocks⟩ => ?done⟩⟩⟩⟩
  case busy =>
    simp only [exec, execBeginStaging, if_pos (Option.isSome_iff_ne_none.mpr hopen)]
    rfl
  case badarg =>
    by_cases hlink : 4 ≤ link.toNat
    · simp [exec, execBeginStaging, hclosed, linkOf_eq_none hlink, State.setResult]
    · rw [exec_beginStaging (n := ⟨link.toNat, Nat.not_le.mp hlink⟩) hclosed rfl,
        beginOn_of_length_out_of_range (hbad.resolve_left hlink)]
      rfl
  case badstate =>
    rw [exec_beginStaging hclosed hlink, beginOn_of_not_staging ⟨hlow, hhigh⟩ (not_or.mpr hsession)]
    rfl
  case noroom =>
    rw [exec_beginStaging hclosed hlink, beginOn_of_claim_refused ⟨hlow, hhigh⟩ hsession (claim_eq_none hlow hroom _)]
    rfl
  case done =>
    have hgranted : (s.claim n len (stagedFill n len s.argumentB)).isSome = true := by
      rw [claim_isSome_iff, claimGranted_iff s n len hlow]
      exact ⟨hdescs, hblocks⟩
    obtain ⟨⟨d, claimed⟩, hclaim⟩ := Option.isSome_iff_exists.mp hgranted
    refine ⟨d, claimed, hclaim, ?_⟩
    rw [exec_beginStaging hclosed hlink, beginOn_of_claim_granted ⟨hlow, hhigh⟩ hsession hclaim]

/-! ## Payload bytes (R1) -/

theorem payloadAddress_of_block {blocks : List BlockId} {i : Nat} {b : BlockId} (h : blocks[i / 64]? = some b) :
    payloadAddress blocks i = some (64 * b.val + i % 64) := by
  unfold payloadAddress Config.blockBytes
  rw [h, Nat.mul_comm]

/-- A payload byte's place in its block can be told from its address (R1). -/
theorem payloadAddress_mod {blocks : List BlockId} {i a : Nat} (h : payloadAddress blocks i = some a) :
    a % 64 = i % 64 := by
  unfold payloadAddress Config.blockBytes at h
  split at h
  · simp only [Option.some.injEq] at h
    omega
  · exact nomatch h

/-- Neighbouring payload bytes stand at different addresses (R1). -/
theorem payloadAddress_succ_ne {blocks : List BlockId} {i a : Nat} (h : payloadAddress blocks i = some a) :
    payloadAddress blocks (i + 1) ≠ some a := by
  intro hnext
  have hplace := payloadAddress_mod h
  have hplace' := payloadAddress_mod hnext
  omega

/-- Writing a payload byte changes parcel memory alone. -/
theorem writePayload_frame (d : DescId) (i : Nat) (v : Byte) (s : State) :
    { s.writePayload d i v with mem := s.mem } = s := by
  unfold State.writePayload
  split <;> rfl

theorem desc_writePayload (d x : DescId) (i : Nat) (v : Byte) (s : State) :
    (s.writePayload d i v).desc x = s.desc x := by
  unfold State.writePayload
  split <;> rfl

theorem read_writePayload_same {s : State} {d : DescId} {i a : Nat} (hwf : s.mem.wf)
    (h : payloadAddress (s.desc d).blocks i = some a) (v : Byte) : (s.writePayload d i v).mem.read a = v := by
  obtain ⟨hsorted, -, -⟩ := hwf
  unfold State.writePayload
  rw [h]
  exact Memory.read_write_same s.mem a v hsorted

theorem read_writePayload_ne {s : State} {d : DescId} {i a : Nat} (h : payloadAddress (s.desc d).blocks i ≠ some a)
    (v : Byte) : (s.writePayload d i v).mem.read a = s.mem.read a := by
  unfold State.writePayload
  split
  · rename_i k hk
    exact Memory.read_write_ne s.mem k a v fun hak => h (hak ▸ hk)
  · rfl

/-! ## STAGE DATA (R161, R162) -/

/-- The halves of a word by value. -/
theorem word_halves_eq_ofNat (w : Word) :
    w.extractLsb' 0 8 = BitVec.ofNat 8 (w.toNat % 256) ∧ w.extractLsb' 8 8 = BitVec.ofNat 8 (w.toNat / 256) := by
  refine ⟨BitVec.eq_of_toNat_eq ?_, BitVec.eq_of_toNat_eq ?_⟩
  · simp
  · simp [Nat.shiftRight_eq_div_pow]

section
variable {s : State} {c : Staging}

theorem exec_stageDataWrite_of_room (hc : s.staging = some c) (hroom : c.writeCount < c.length) (w : Word) :
    exec (.stageDataWrite w) s = .next (s.stageWord c w) := by
  simp only [exec, execStageDataWrite, hc, if_pos hroom]

theorem exec_stageDataWrite_of_nothing_to_take
    (h : s.staging = none ∨ ∃ c, s.staging = some c ∧ c.length ≤ c.writeCount) (w : Word) :
    exec (.stageDataWrite w) s = .next (s.setGlobal .stageOverrun) := by
  rcases h with hclosed | ⟨c, hc, hfull⟩
  · simp only [exec, execStageDataWrite, hclosed]
  · simp only [exec, execStageDataWrite, hc, if_neg (Nat.not_lt.mpr hfull)]

theorem stageWord_of_last (h : c.writeCount + 1 = c.length) (w : Word) :
    s.stageWord c w = { s.writePayload c.descriptor c.writeCount (BitVec.ofNat 8 (w.toNat % 256)) with
      staging := some { c with writeCount := c.writeCount + 1 } } := by
  rw [State.stageWord, if_pos h, (word_halves_eq_ofNat w).1]

theorem stageWord_of_more (h : c.writeCount + 1 < c.length) (w : Word) :
    s.stageWord c w =
      { (s.writePayload c.descriptor c.writeCount (BitVec.ofNat 8 (w.toNat % 256))).writePayload c.descriptor
          (c.writeCount + 1) (BitVec.ofNat 8 (w.toNat / 256)) with
        staging := some { c with writeCount := c.writeCount + 2 } } := by
  rw [State.stageWord, if_neg (Nat.ne_of_lt h), (word_halves_eq_ofNat w).1, (word_halves_eq_ofNat w).2]

/-- A word stored changes parcel memory and the staging context alone. -/
theorem stageWord_frame (w : Word) : { s.stageWord c w with mem := s.mem, staging := s.staging } = s := by
  have hlow := writePayload_frame c.descriptor c.writeCount (w.extractLsb' 0 8) s
  unfold State.stageWord
  dsimp only
  split
  · exact congrArg (fun t : State => { t with staging := s.staging }) hlow
  · have hhigh := writePayload_frame c.descriptor (c.writeCount + 1) (w.extractLsb' 8 8)
      (s.writePayload c.descriptor c.writeCount (w.extractLsb' 0 8))
    calc
      _ = { s.writePayload c.descriptor c.writeCount (w.extractLsb' 0 8) with mem := s.mem, staging := s.staging } :=
        congrArg (fun t : State => { t with mem := s.mem, staging := s.staging }) hhigh
      _ = s := congrArg (fun t : State => { t with staging := s.staging }) hlow

end

/-- Settles O19: a word of two bytes is two payload writes at different addresses, the last byte of an odd length one. -/
theorem stageDataStoresBytes : Obligations.StageDataStoresBytes := by
  refine ⟨fun _ => rfl, fun w s c _ hwf hc hroom => ?stored, fun w s hfull => ?overrun⟩
  case stored =>
    refine ⟨_, exec_stageDataWrite_of_room hc hroom w, stageWord_frame w, ?_⟩
    rcases Nat.eq_or_lt_of_le (Nat.succ_le_of_lt hroom) with hlast | hmore
    · rw [stageWord_of_last hlast]
      refine ⟨?_, fun a ha => read_writePayload_same hwf ha _, fun hmore => absurd hlast (Nat.ne_of_lt hmore),
        fun a ha _ => read_writePayload_ne ha _⟩
      rw [← hlast, Nat.min_eq_left (Nat.le_succ _)]
    · rw [stageWord_of_more hmore]
      have hdesc := desc_writePayload c.descriptor c.descriptor c.writeCount (BitVec.ofNat 8 (w.toNat % 256)) s
      have hlowwf := State.writePayload_wf c.descriptor c.writeCount (BitVec.ofNat 8 (w.toNat % 256)) hwf
      refine ⟨by rw [Nat.min_eq_right hmore], fun a ha => ?low, fun _ a ha => ?high, fun a ha hnext => ?others⟩
      case low =>
        exact (read_writePayload_ne (hdesc ▸ payloadAddress_succ_ne ha) _).trans (read_writePayload_same hwf ha _)
      case high => exact read_writePayload_same hlowwf (hdesc ▸ ha) _
      case others => exact (read_writePayload_ne (hdesc ▸ hnext hmore) _).trans (read_writePayload_ne ha _)
  case overrun => exact exec_stageDataWrite_of_nothing_to_take hfull w

/-! ## COMMIT (R128, R163) -/

theorem exec_commit_of_closed {s : State} (hclosed : s.staging = none) (link : BitVec 4) :
    exec (.commit link) s = .next (s.setResult 7 .badstate) := by
  simp only [exec, execCommit, hclosed]

/-- COMMIT with the context open goes on to its other tests, whatever link number its word carries (R163). -/
theorem exec_commit {s : State} {c : Staging} (hc : s.staging = some c) (link : BitVec 4) :
    exec (.commit link) s = .next (s.commitStaged c) := by
  simp only [exec, execCommit, hc]

/-- A Link Engine in OPENING or OPEN with one descriptor more at its submit queue's tail, the query condition tested (R87,
R128). -/
def LinkEngine.submitted (d : DescId) (e : LinkEngine) : LinkEngine :=
  { e with
    submit := e.submit ++ [d]
    timer :=
      if e.session = .open_ ∧ e.retention = [] ∧ e.peerCredit = 0 ∧ e.timer = none then
        some { mode := .query, duration := e.latched.rto * 2 ^ min e.retryCount 3, count := 0 }
      else e.timer }

theorem queryTest_append_submit {e : LinkEngine} (h : e.session = .opening ∨ e.session = .open_) (d : DescId) :
    ({ e with submit := e.submit ++ [d] } : LinkEngine).queryTest = e.submitted d := by
  have hsending : e.session.sending = true ↔ e.session = .open_ := by
    rcases h with h | h <;> simp [h, SessionState.sending]
  have htest : (({ e with submit := e.submit ++ [d] } : LinkEngine).queryCondition && e.timer.isNone) = true ↔
      e.session = .open_ ∧ e.retention = [] ∧ e.peerCredit = 0 ∧ e.timer = none := by
    simp [LinkEngine.queryCondition, hsending, and_assoc]
  unfold LinkEngine.queryTest LinkEngine.submitted
  by_cases hquery : e.session = .open_ ∧ e.retention = [] ∧ e.peerCredit = 0 ∧ e.timer = none
  · rw [if_pos (htest.mpr hquery), if_pos hquery]
    rfl
  · rw [if_neg (mt htest.mp hquery), if_neg hquery]

section
variable {s : State} {c : Staging}

theorem submitStaged_eq (hsession : (s.le c.link).session = .opening ∨ (s.le c.link).session = .open_)
    (h : (s.desc c.descriptor).state ≠ .free) :
    s.submitStaged c =
      ({ s with
        staging := none
        descs := s.descs.set c.descriptor { s.desc c.descriptor with state := .submitted } }).modLE c.link
        (LinkEngine.submitted c.descriptor) := by
  have hdesc : ({ s with staging := none }.modDesc c.descriptor fun r => { r with state := .submitted }) =
      { s with staging := none, descs := s.descs.set c.descriptor { s.desc c.descriptor with state := .submitted } } :=
    if_neg h
  rw [State.submitStaged, hdesc]
  exact modLE_congr (queryTest_append_submit hsession c.descriptor)

theorem commitStaged_of_incomplete (h : c.writeCount < c.length) : s.commitStaged c = s.setResult 7 .badarg := if_pos h

variable (hcomplete : c.length ≤ c.writeCount)
include hcomplete

theorem commitStaged_of_not_staging (h : ¬ ((s.le c.link).session = .opening ∨ (s.le c.link).session = .open_)) :
    s.commitStaged c = s.setResult 7 .badstate := by
  rw [← SessionState.staging_iff] at h
  simp [State.commitStaged, Nat.not_lt.mpr hcomplete, h]

variable (hsession : (s.le c.link).session = .opening ∨ (s.le c.link).session = .open_)
include hsession

theorem commitStaged_of_queue_full (h : 8 ≤ (s.le c.link).submit.length) : s.commitStaged c = s.setResult 7 .busy := by
  simp [State.commitStaged, Nat.not_lt.mpr hcomplete, (SessionState.staging_iff _).mpr hsession, Config.windowSize, h]

theorem commitStaged_of_room (h : (s.le c.link).submit.length < 8) :
    s.commitStaged c = (s.submitStaged c).setResult 7 .done := by
  simp [State.commitStaged, Nat.not_lt.mpr hcomplete, (SessionState.staging_iff _).mpr hsession, Config.windowSize,
    Nat.not_le.mpr h]

end

/-- Settles O20: one equation of COMMIT for each of its tests, and the query test on the queue that it leaves. -/
theorem commitTestsInOrder : Obligations.CommitTestsInOrder := by
  intro link s
  refine ⟨fun hclosed => ?closed, fun c hc => ⟨fun hincomplete => ?badarg, fun hcomplete => ⟨fun hsession => ?badstate,
    fun hsession => ⟨fun hqueued => ?busy, fun hroom hstaged => ?done⟩⟩⟩⟩
  case closed => exact exec_commit_of_closed hclosed link
  case badarg =>
    rw [exec_commit hc, commitStaged_of_incomplete hincomplete]
    rfl
  case badstate =>
    rw [exec_commit hc, commitStaged_of_not_staging hcomplete (not_or.mpr hsession)]
    rfl
  case busy =>
    rw [exec_commit hc, commitStaged_of_queue_full hcomplete hsession hqueued]
    rfl
  case done =>
    rw [exec_commit hc, commitStaged_of_room hcomplete hsession hroom,
      submitStaged_eq hsession (ne_of_eq_of_ne hstaged nofun)]
    rfl

/-! ## CANCEL, RELEASE and POP (R15, R165, R171, R175) -/

section
variable {s : State}

/-- CANCEL with the context open, whatever link number its word carries (R165). -/
theorem exec_cancel {c : Staging} (hc : s.staging = some c) (link : BitVec 4) :
    exec (.cancel link) s = .next (({ s with staging := none }.releaseToFree c.descriptor).setResult 8 .done) := by
  simp only [exec, execCancel, hc]

theorem exec_cancel_of_closed (hclosed : s.staging = none) (link : BitVec 4) :
    exec (.cancel link) s = .next (s.setResult 8 .badstate) := by
  simp only [exec, execCancel, hclosed]

theorem exec_release_of_empty (hempty : s.delivery = []) (link : BitVec 4) :
    exec (.release link) s = .next (s.setResult 9 .empty) := by
  simp only [exec, execRelease, hempty]

theorem exec_pop_of_empty (hempty : s.completion = []) (link : BitVec 4) :
    exec (.pop link) s = .next (s.setResult 10 .empty) := by
  simp only [exec, execPop, hempty]

variable {d : DescId} {rest : List DescId}

/-- RELEASE of the head of the delivery queue, whatever link number its word carries (R171). -/
theorem exec_release (hqueue : s.delivery = d :: rest) (link : BitVec 4) :
    exec (.release link) s =
      .next (({ s with delivery := rest, readPointer := 0 }.releaseToFree d).setResult 9 .done) := by
  simp only [exec, execRelease, hqueue]

/-- POP of the head of the completion queue, whatever link number its word carries (R175). -/
theorem exec_pop (hqueue : s.completion = d :: rest) (link : BitVec 4) :
    exec (.pop link) s = .next (({ s with completion := rest }.releaseToFree d).setResult 10 .done) := by
  simp only [exec, execPop, hqueue]

end

/-- Settles O21: the three commands take their descriptor out of its place and release it. -/
theorem cancelReleaseAndPopFreeOne : Obligations.CancelReleaseAndPopFreeOne := by
  intro link s
  refine ⟨fun hclosed => ?badstate, fun c hc hstaged => ?cancel, fun hempty => ?nothingDelivered,
    fun d rest hqueue hdelivered => ?release, fun hempty => ?nothingCompleted, fun d rest hqueue hcompleted => ?pop⟩
  case badstate => exact exec_cancel_of_closed hclosed link
  case nothingDelivered => exact exec_release_of_empty hempty link
  case nothingCompleted => exact exec_pop_of_empty hempty link
  case cancel =>
    obtain ⟨hreleased, hframe⟩ := releasedOnly_releaseToFree (s := { s with staging := none }) (d := c.descriptor)
      (ne_of_eq_of_ne hstaged nofun)
    refine ⟨_, exec_cancel hc link, hreleased, ?_, rfl, rfl, ?_⟩
    · exact State.staging_releaseToFree c.descriptor { s with staging := none }
    · exact congrArg (fun t : State => { t with
        staging := s.staging, resultCommand := s.resultCommand, resultCode := s.resultCode }) hframe
  case release =>
    obtain ⟨hreleased, hframe⟩ := releasedOnly_releaseToFree (s := { s with delivery := rest, readPointer := 0 }) (d := d)
      (ne_of_eq_of_ne hdelivered nofun)
    refine ⟨_, exec_release hqueue link, hreleased, ?_, ?_, rfl, rfl, ?_⟩
    · exact State.delivery_releaseToFree d { s with delivery := rest, readPointer := 0 }
    · exact State.readPointer_releaseToFree d { s with delivery := rest, readPointer := 0 }
    · exact congrArg (fun t : State => { t with
        delivery := s.delivery, readPointer := s.readPointer, resultCommand := s.resultCommand,
        resultCode := s.resultCode }) hframe
  case pop =>
    obtain ⟨hreleased, hframe⟩ := releasedOnly_releaseToFree (s := { s with completion := rest }) (d := d)
      (ne_of_eq_of_ne hcompleted nofun)
    refine ⟨_, exec_pop hqueue link, hreleased, ?_, rfl, rfl, ?_⟩
    · exact State.completion_releaseToFree d { s with completion := rest }
    · exact congrArg (fun t : State => { t with
        completion := s.completion, resultCommand := s.resultCommand, resultCode := s.resultCode }) hframe

/-! ## DELIVERY DATA (R169, R170) -/

theorem wordOf_toNat (low high : Byte) : (wordOf low high).toNat = low.toNat + 256 * high.toNat := by
  have hlow : low.toNat < 2 ^ 8 := low.isLt
  rw [wordOf, BitVec.toNat_append, ← Nat.shiftLeft_add_eq_or_of_lt hlow, Nat.shiftLeft_eq]
  omega

/-- With a head in the delivery queue, what is left of it is its length less the read pointer (R169). -/
theorem bytesLeft_of_head {s : State} {d : DescId} {rest : List DescId} {len : Nat} (hqueue : s.delivery = d :: rest)
    (hlen : (s.desc d).length = some len) : s.bytesLeft = len - s.readPointer := by
  simp only [State.bytesLeft, hqueue, Descriptor.bytes, hlen, Option.getD_some]

section
variable {s : State}

/-- A read that finds nothing (R170). -/
theorem exec_deliveryDataRead_of_nothing (h : s.bytesLeft = 0) :
    exec .deliveryDataRead s = .next { s with globalEvents := s.globalEvents ||| 0x20, readData := some 0 } := by
  simp only [exec, execDeliveryDataRead, if_pos h]
  rfl

/-- A read that finds bytes takes two of them at most (R169). -/
theorem exec_deliveryDataRead_of_left {k : Nat} (h : s.bytesLeft = k + 1) :
    exec .deliveryDataRead s =
      .next { s with readPointer := s.readPointer + min 2 (k + 1), readData := some s.deliveryWord } := by
  simp only [exec, execDeliveryDataRead, h, if_neg (Nat.succ_ne_zero k)]
  rfl

theorem deliveryWord_of_one_left {d : DescId} {rest : List DescId} (hqueue : s.delivery = d :: rest)
    (h : s.bytesLeft = 1) : s.deliveryWord = wordOf (s.readPayload d s.readPointer) 0 := by
  simp only [State.deliveryWord, hqueue, h]

theorem deliveryWord_of_more_left {d : DescId} {rest : List DescId} {k : Nat} (hqueue : s.delivery = d :: rest)
    (h : s.bytesLeft = k + 2) :
    s.deliveryWord = wordOf (s.readPayload d s.readPointer) (s.readPayload d (s.readPointer + 1)) := by
  simp only [State.deliveryWord, hqueue, h]

end

/-- Settles O22: a read by the number of bytes left, two or more, one, or none. -/
theorem deliveryDataReadReturnsBytes : Obligations.DeliveryDataReadReturnsBytes := by
  refine ⟨fun s d i b hb => ⟨payloadAddress_of_block hb, readPayload_of_block hb⟩, fun s =>
    ⟨fun d rest len hqueue hlen => ?_, fun hempty => ?empty⟩⟩
  case empty => exact exec_deliveryDataRead_of_nothing (by simp only [State.bytesLeft, hempty])
  have hleft := bytesLeft_of_head hqueue hlen
  refine ⟨fun htwo => ?two, fun hone => ?one, fun hnone => ?none⟩
  case two =>
    have hk : s.bytesLeft = (len - s.readPointer - 2) + 2 := by omega
    refine ⟨_, exec_deliveryDataRead_of_left hk, ?_⟩
    rw [deliveryWord_of_more_left hqueue hk, wordOf_toNat]
  case one =>
    have hk : s.bytesLeft = 0 + 1 := by omega
    refine ⟨_, hone ▸ exec_deliveryDataRead_of_left hk, ?_⟩
    rw [deliveryWord_of_one_left hqueue hk, wordOf_toNat]
    rfl
  case none => exact exec_deliveryDataRead_of_nothing (hleft.trans (Nat.sub_eq_zero_of_le hnone))

end Sys2Proof.Machine
end

section
/-! The family of chapter 9: the event and mask registers, EVENT SUMMARY and /INT, and what the resets leave of flags, masks
and counters (R181, R187-R189, R191, R200). -/

namespace Sys2Proof.Machine

/-! ## Enabled Set flags (R188, R189) -/

/-- A flag set and its mask meet where some flag is Set with its mask enabled. -/
theorem and_ne_zero_iff_getLsbD {w : Nat} (x y : BitVec w) :
    (x &&& y != 0) = true ↔ ∃ i, i < w ∧ x.getLsbD i = true ∧ y.getLsbD i = true := by
  have hbits : x &&& y = 0 ↔ ∀ i, i < w → (x &&& y).getLsbD i = false :=
    ⟨fun h i _ => by rw [h]; exact BitVec.getLsbD_zero, fun h => BitVec.eq_of_getLsbD_eq fun i hi => by simp [h i hi]⟩
  rw [bne_iff_ne, ne_eq, hbits]
  simp

theorem globalSummary_iff (s : State) :
    s.globalSummary = true ↔ ∃ i, i < 6 ∧ s.globalEvents.getLsbD i = true ∧ s.globalMask.getLsbD i = true :=
  and_ne_zero_iff_getLsbD _ _

theorem linkSummary_iff (s : State) (n : LinkId) :
    s.linkSummary n = true ↔ ∃ i, i < 7 ∧ (s.link n).events.getLsbD i = true ∧ (s.link n).mask.getLsbD i = true :=
  and_ne_zero_iff_getLsbD _ _

theorem intAsserted_iff_summary (s : State) :
    s.intAsserted = true ↔ s.globalSummary = true ∨ ∃ n, s.linkSummary n = true := by
  have hall : ∀ n : LinkId, n ∈ allLinks := by decide
  simp [State.intAsserted, hall]

/-! ## EVENT SUMMARY (R189) -/

theorem getLsbD_flagAt {lo : Nat} (hlo : lo < 16) (b : Bool) (i : Nat) :
    (flagAt lo b).getLsbD i = (decide (i = lo) && b) := by
  cases b
  · simp [flagAt, field]
  · have hplace : flagAt lo true = BitVec.twoPow 16 lo := rfl
    simp [hplace, BitVec.getLsbD_twoPow, hlo, eq_comm]

/-- A bit of EVENT SUMMARY is 1 exactly where it is a link's and the link has an enabled Set flag, or the global set's and
that has one. -/
theorem getLsbD_eventSummary (s : State) (i : Nat) :
    s.eventSummary.getLsbD i = true ↔
      (∃ n : LinkId, i = n.val ∧ s.linkSummary n = true) ∨ i = 4 ∧ s.globalSummary = true := by
  simp [State.eventSummary, getLsbD_flagAt, Fin.exists_fin_succ, or_assoc]

theorem eventSummary_link (s : State) (n : LinkId) :
    s.eventSummary.getLsbD n.val = true ↔ s.linkSummary n = true := by
  rw [getLsbD_eventSummary]
  constructor
  · rintro (⟨m, hm, h⟩ | ⟨hn, -⟩)
    · exact Fin.ext hm ▸ h
    · omega
  · exact fun h => .inl ⟨n, rfl, h⟩

theorem eventSummary_global (s : State) : s.eventSummary.getLsbD 4 = true ↔ s.globalSummary = true := by
  rw [getLsbD_eventSummary]
  constructor
  · rintro (⟨m, hm, -⟩ | ⟨-, h⟩)
    · omega
    · exact h
  · exact fun h => .inr ⟨rfl, h⟩

/-- /INT is asserted while EVENT SUMMARY has a bit at 1. -/
theorem intAsserted_iff_eventSummary (s : State) : s.intAsserted = true ↔ s.eventSummary ≠ 0 := by
  rw [intAsserted_iff_summary]
  constructor
  · rintro (h | ⟨n, h⟩) hzero
    · rw [← eventSummary_global, hzero] at h
      exact absurd h (by decide)
    · rw [← eventSummary_link, hzero] at h
      simp at h
  · intro h
    contrapose! h
    obtain ⟨hglobal, hlink⟩ := h
    refine BitVec.eq_of_getLsbD_eq fun i _ => ?_
    simp [Bool.eq_false_iff, getLsbD_eventSummary, hglobal, hlink]

/-! ## Writes of the event and mask registers (R181, R187) -/

theorem getLsbD_clear_low {k : Nat} (flags : BitVec k) (w : Word) {i : Nat} (hi : i < k) :
    (flags &&& ~~~w.extractLsb' 0 k).getLsbD i = (flags.getLsbD i && !w.getLsbD i) := by
  simp [hi]

/-- The low bits of a word by value. -/
theorem word_low_eq_ofNat (width : Nat) (w : Word) :
    w.extractLsb' 0 width = BitVec.ofNat width (w.toNat % 2 ^ width) := by
  apply BitVec.eq_of_toNat_eq
  simp

theorem exec_eventsWrite_global (w : Word) (s : State) :
    exec (.eventsWrite .global w) s = .next (s.clearGlobal (w.extractLsb' 0 6)) := rfl

theorem exec_eventsWrite_link (w : Word) (s : State) :
    exec (.eventsWrite .link w) s = .next (s.clearEvents s.linkSelect (w.extractLsb' 0 7)) := rfl

theorem exec_maskWrite_global (w : Word) (s : State) :
    exec (.maskWrite .global w) s = .next { s with globalMask := BitVec.ofNat 6 (w.toNat % 64) } :=
  congrArg (fun m => Host.Outcome.next ({ s with globalMask := m } : State)) (word_low_eq_ofNat 6 w)

theorem exec_maskWrite_link (w : Word) (s : State) :
    exec (.maskWrite .link w) s =
      .next (s.modLink s.linkSelect fun l => { l with mask := BitVec.ofNat 7 (w.toNat % 128) }) :=
  congrArg (fun m => Host.Outcome.next (s.modLink s.linkSelect fun l => { l with mask := m })) (word_low_eq_ofNat 7 w)

/-- Settles O14: the four writes, register by register, and then /INT and EVENT SUMMARY by the sets' summaries. -/
theorem eventFlagsMasksAndInterrupt : Obligations.EventFlagsMasksAndInterrupt := by
  refine ⟨fun w s => ⟨⟨_, exec_eventsWrite_global w s, rfl, fun i hi => getLsbD_clear_low _ _ hi⟩,
      ⟨_, exec_eventsWrite_link w s, ⟨_, rfl⟩, fun i hi => ?flags⟩, exec_maskWrite_global w s, exec_maskWrite_link w s⟩,
    fun s => ⟨?int, fun n => (eventSummary_link s n).trans (linkSummary_iff s n),
      (eventSummary_global s).trans (globalSummary_iff s), intAsserted_iff_eventSummary s⟩⟩
  case flags =>
    rw [State.clearEvents, State.link_modLink_same]
    exact getLsbD_clear_low _ _ hi
  case int => simp only [intAsserted_iff_summary, globalSummary_iff, linkSummary_iff]

/-! ## The resets (R191, R200) -/

/-- The two resets answer the device-wide reset, but for the result word and the reset cause. -/
theorem exec_reset_eq_deviceWide {c : Instr} (hc : c = .pinReset ∨ ∃ l, c = .deviceReset l) (s : State) :
    ∃ command code cause, exec c s =
      .next { s.deviceWide with resultCommand := command, resultCode := code, resetCause := cause } := by
  rcases hc with rfl | ⟨l, rfl⟩
  · exact ⟨_, _, _, rfl⟩
  · exact ⟨_, _, _, rfl⟩

/-- With every event flag Clear no summary bit is 1, whatever the masks are (R189). -/
theorem eventSummary_eq_zero_of_clear {s : State} (hglobal : s.globalEvents = 0) (hlink : ∀ n, (s.link n).events = 0) :
    s.eventSummary = 0 ∧ s.intAsserted = false := by
  have hint : s.intAsserted = false := by
    simp [Bool.eq_false_iff, intAsserted_iff_summary, globalSummary_iff, linkSummary_iff, hglobal, hlink]
  have hsummary := intAsserted_iff_eventSummary s
  rw [hint] at hsummary
  exact ⟨by simpa using hsummary, hint⟩

/-- Settles O7: each link is at its reset value, and with every flag Clear the summary and /INT follow. -/
theorem resetsClearFlagsAndCounters : Obligations.ResetsClearFlagsAndCounters := by
  intro c s hc
  obtain ⟨command, code, cause, hexec⟩ := exec_reset_eq_deviceWide hc s
  refine ⟨_, hexec, rfl, rfl, ?_⟩
  generalize ht : { s.deviceWide with resultCommand := command, resultCode := code, resetCause := cause } = t
  have hlink : ∀ n, t.link n = (s.link n).atReset (s.rxd.get n).level := ht ▸ link_deviceWide s
  have hflags : ∀ n, (t.link n).events = 0 ∧ (t.link n).mask = 0 := fun n => by rw [hlink]; exact ⟨rfl, rfl⟩
  obtain ⟨hsummary, hint⟩ := eventSummary_eq_zero_of_clear (ht ▸ rfl : t.globalEvents = 0) fun n => (hflags n).1
  refine ⟨hflags, hsummary, hint, fun n k => ?counters, fun n => by rw [hlink]; rfl, ht ▸ rfl, ht ▸ rfl, ht ▸ rfl⟩
  case counters =>
    rw [hlink]
    exact Vector.getElem_replicate k.isLt

end Sys2Proof.Machine
end

section
/-! The family of chapter 10: the counters read, cleared and counted up (R192, R196-R199). -/

namespace Sys2Proof.Machine

/-! ## Reading a counter (R197, R198) -/

theorem selectedCounter_eq_some {s : State} {c : Fin 14} (h : s.counterNumber.toNat = c.val) :
    s.selectedCounter = some c := by
  have hlt : s.counterNumber.toNat < 14 := h ▸ c.isLt
  rw [State.selectedCounter, dif_pos hlt, Option.some.injEq]
  exact Fin.ext h

theorem selectedCounter_eq_none {s : State} (h : 14 ≤ s.counterNumber.toNat) : s.selectedCounter = none :=
  dif_neg (Nat.not_lt.mpr h)

theorem counterWord_of_selected {s : State} {c : Fin 14} (h : s.selectedCounter = some c) :
    s.counterWord = BitVec.ofNat 16 ((s.link s.counterLink).counters.get c) := by
  rw [State.counterWord, h]

theorem counterWord_of_unassigned {s : State} (h : s.selectedCounter = none) : s.counterWord = 0 := by
  rw [State.counterWord, h]

theorem zeroSelected_of_selected {s : State} {c : Fin 14} (h : s.selectedCounter = some c) :
    s.zeroSelected = s.modLink s.counterLink fun l => { l with counters := l.counters.set c 0 } := by
  rw [State.zeroSelected, h]

theorem zeroSelected_of_unassigned {s : State} (h : s.selectedCounter = none) : s.zeroSelected = s := by
  rw [State.zeroSelected, h]

theorem exec_counterValueRead (s : State) :
    exec .counterValueRead s = .next ((if s.readClears then s.zeroSelected else s).driveData s.counterWord) := rfl

/-- Counter numbers 14 and 15 read as 0 in either mode, for there is nothing to zero. -/
theorem exec_counterValueRead_of_unassigned {s : State} (h : s.selectedCounter = none) :
    exec .counterValueRead s = .next { s with readData := some 0 } := by
  rw [exec_counterValueRead, zeroSelected_of_unassigned h, ite_self, counterWord_of_unassigned h]
  rfl

theorem exec_counterValueRead_of_keeps {s : State} {c : Fin 14} (h : s.selectedCounter = some c)
    (hmode : s.readClears = false) : exec .counterValueRead s =
      .next { s with readData := some (BitVec.ofNat 16 ((s.link s.counterLink).counters.get c)) } := by
  rw [exec_counterValueRead, if_neg (Bool.eq_false_iff.mp hmode), counterWord_of_selected h]
  rfl

/-- In read-clears mode the word driven is the counter before it is zeroed. -/
theorem exec_counterValueRead_of_clears {s : State} {c : Fin 14} (h : s.selectedCounter = some c)
    (hmode : s.readClears = true) : exec .counterValueRead s =
      .next ({ s with readData := some (BitVec.ofNat 16 ((s.link s.counterLink).counters.get c)) }.modLink s.counterLink
        fun l => { l with counters := l.counters.set c 0 }) := by
  rw [exec_counterValueRead, if_pos hmode, zeroSelected_of_selected h, counterWord_of_selected h]
  rfl

/-! ## CLEAR COUNTERS (R199) -/

theorem exec_clearCounters_of_link {link : BitVec 4} {n : LinkId} (h : link.toNat = n.val) (s : State) :
    exec (.clearCounters link) s =
      .next ({ s with resultCommand := 11, resultCode := .done }.modLink n Link.clearCounters) := by
  change execClearCounters link s = _
  rw [execClearCounters, linkOf_eq_some h]
  rfl

/-! ## An occurrence, its saturation by cases (R192, R196) -/

theorem min_succ_eq_ite (v : Nat) : min 65535 (v + 1) = if v < 65535 then v + 1 else 65535 := by
  split <;> omega

/-- What an occurrence makes of its link, the counter's value being the one before it. -/
theorem modLink_counted (n : LinkId) (c : Counter) (s : State) :
    s.modLink n (Link.counted c) =
      let v := (s.link n).counters.get c.number
      s.modLink n fun l =>
        { l with counters := l.counters.set c.number (if v < 65535 then v + 1 else 65535),
                 half := l.half || decide (v = 32767) } :=
  modLink_congr (by rw [Link.counted, min_succ_eq_ite])

/-- COUNTER_HALF is Set by a passage to 32,768 and by nothing else. -/
theorem or_counterHalf_eq_ite (flags : BitVec 6) (v : Nat) :
    (flags ||| if v = 32767 then 0x08 else 0) = if v = 32767 then flags ||| 0x08 else flags := by
  split
  · rfl
  · exact BitVec.or_zero

theorem count_eq_by_cases (s : State) (n : LinkId) (c : Counter) :
    let v := (s.link n).counters.get c.number
    s.count n c =
      { s with globalEvents := if v = 32767 then s.globalEvents ||| 0x08 else s.globalEvents }.modLink n fun l =>
        { l with counters := l.counters.set c.number (if v < 65535 then v + 1 else 65535),
                 half := l.half || decide (v = 32767) } := by
  rw [count_eq, modLink_counted, or_counterHalf_eq_ite]
  rfl

/-- Settles O24: the read by whether the number names a counter and by the mode, CLEAR COUNTERS by its link, and an occurrence
by its counter's value before it. -/
theorem countersCountReadAndClear : Obligations.CountersCountReadAndClear := by
  refine ⟨⟨fun s => ⟨fun hnone => exec_counterValueRead_of_unassigned (selectedCounter_eq_none hnone), fun c hc => ?read⟩,
    fun link n s hn => exec_clearCounters_of_link hn s⟩, count_eq_by_cases⟩
  case read =>
    have hselected := selectedCounter_eq_some hc
    exact ⟨exec_counterValueRead_of_keeps hselected, exec_counterValueRead_of_clears hselected⟩

end Sys2Proof.Machine
end

section
/-! The family of chapter 11: commands and register writes, and the part after reset. -/

namespace Sys2Proof.Machine
open Sys2Proof.Safety

/-! ## Rows as the table has them (R202, R206) -/

/-- A code that names no command answers BADARG (R206, R208). -/
theorem exec_unassignedCommandCode {code : BitVec 4} (h : unassignedCode code = true) (link : BitVec 4) (s : State) :
    exec (.unassignedCommandCode code link) s = .next (s.setResult code .badarg) := by
  simp only [unassignedCode, Bool.or_eq_true, beq_iff_eq] at h
  obtain ((rfl | rfl) | rfl) | rfl := h <;> rfl

/-- The addresses with a row of their own, by number (R202). -/
theorem addressWithOwnRow_eq (a : BitVec 5) :
    addressWithOwnRow a = [0x00, 0x03, 0x05, 0x06, 0x07, 0x08, 0x10, 0x11, 0x14, 0x18].contains a.toNat := by
  revert a; decide

/-- A write to an address without a row of its own is a write to its register (R202). -/
theorem exec_registerWrite {a : BitVec 5} (h : addressWithOwnRow a = false) (w : Word) (s : State) :
    exec (.registerWrite a w) s = .next (s.writeRegister a w) := by
  rw [addressWithOwnRow_eq] at h
  change execRegisterWrite a w s = _
  unfold execRegisterWrite
  split
  case h_11 => rfl
  all_goals
    rename_i ha
    rw [ha] at h
    exact absurd h (by decide)

/-! ## Bad link numbers and codes (R160, R206, R208) -/

/-- Settles O25: 4 to 15 name no link, so that every command that tests its link number takes its last branch. -/
theorem badLinkNumbersAndCodesRefused : Obligations.BadLinkNumbersAndCodesRefused := by
  refine fun link s => ⟨fun hlink => ?_, fun code hcode => exec_unassignedCommandCode ?_ link s⟩
  · have hnone := linkOf_eq_none hlink
    have hbegin : s.staging = none → exec (.beginStaging link) s = .next (s.setResult 6 .badarg) := fun hclosed => by
      simp [exec, execBeginStaging, hclosed, hnone]
    simp only [exec, execHostOpen, execHostClose, execHostAbort, execLinkReset, execSetGuarantee, execClearCounters, hnone]
    exact ⟨rfl, rfl, rfl, rfl, rfl, hbegin, rfl⟩
  · obtain rfl | rfl | rfl | rfl := hcode <;> rfl

/-! ## Values as a register stores them (R23, R64, R114, R205) -/

theorem clamp_eq_ite {lo hi : Nat} (h : lo ≤ hi) (v : Nat) :
    clamp lo hi v = if v < lo then lo else if hi < v then hi else v := by
  unfold clamp
  split_ifs <;> omega

/-- The bits of a word from `lo` up, by value. -/
theorem toNat_word_field (lo width : Nat) (w : Word) :
    (w.extractLsb' lo width).toNat = w.toNat / 2 ^ lo % 2 ^ width := by
  rw [BitVec.extractLsb'_toNat, Nat.shiftRight_eq_div_pow]

theorem linkBits_eq_ofNat (w : Word) (lo : Nat) : linkBits w lo = Fin.ofNat 4 (w.toNat / 2 ^ lo % 4) := by
  apply Fin.ext
  change (w.extractLsb' lo 2).toNat = w.toNat / 2 ^ lo % 4 % 4
  rw [toNat_word_field, show 2 ^ 2 = 4 from rfl, Nat.mod_mod]

theorem writeTiming0_eq (w : Word) (p : Params) : p.writeTiming0 w =
    { p with rto := if w.toNat = 0 then 1 else if 4095 < w.toNat then 4095 else w.toNat } := by
  rw [Params.writeTiming0, clamp_one _ _ (by decide)]

/-- No word has a retry limit above 15, so that only the threshold is clamped from above (R64). -/
theorem writeTiming1_eq (w : Word) (p : Params) : p.writeTiming1 w =
    { p with
      retryLimit := if w.toNat % 16 = 0 then 1 else w.toNat % 16
      threshold := if w.toNat / 16 % 16 = 0 then 1 else if 8 < w.toNat / 16 % 16 then 8 else w.toNat / 16 % 16
      holdTime := w.toNat / 256 } := by
  have hlimit : ¬ 15 < w.toNat % 16 := by omega
  have hhold : w.toNat / 256 % 256 = w.toNat / 256 := by omega
  simp only [Params.writeTiming1, toNat_word_field, clamp_one _ _ (by decide : 1 ≤ 15), clamp_one _ _ (by decide : 1 ≤ 8)]
  simp [hlimit, hhold]

/-- Settles O11: address by address the stored fields are those of the word, clamped. -/
theorem registerWritesStoreClamped : Obligations.RegisterWritesStoreClamped := by
  intro w s
  have htag : w.extractLsb' 0 8 = BitVec.ofNat 8 (w.toNat % 256) := word_low_eq_ofNat 8 w
  have hnumber : w.extractLsb' 0 4 = BitVec.ofNat 4 (w.toNat % 16) := word_low_eq_ofNat 4 w
  have hrank : (w.extractLsb' 0 2).toNat = w.toNat % 4 := by rw [toNat_word_field]; simp
  have hdivider : clamp 3 4095 w.toNat = _ := clamp_eq_ite (by decide) _
  have hprescale : clamp 16 65535 w.toNat = if w.toNat < 16 then 16 else w.toNat := by
    rw [clamp_eq_ite (by decide), if_neg (by omega : ¬ 65535 < w.toNat)]
  have hlink : linkBits w 4 = Fin.ofNat 4 (w.toNat / 16 % 4) := linkBits_eq_ofNat w 4
  refine ⟨rfl, ?argumentB, ?timing0, ?timing1, ?mode, ?divider, ?prescale, ?counterSelect, rfl, fun a ha => ?readOnly⟩
  case argumentB => rw [exec_registerWrite rfl, ← htag]; rfl
  case timing0 => rw [exec_registerWrite rfl]; simp only [← writeTiming0_eq]; rfl
  case timing1 => rw [exec_registerWrite rfl]; simp only [← writeTiming1_eq]; rfl
  case mode => rw [exec_registerWrite rfl, ← hrank]; rfl
  case divider => rw [exec_registerWrite rfl, ← hdivider]; rfl
  case prescale => rw [exec_registerWrite rfl, ← hprescale]; rfl
  case counterSelect => rw [exec_registerWrite rfl, ← hnumber, ← hlink]; rfl
  case readOnly =>
    simp only [List.mem_cons, List.not_mem_nil, or_false] at ha
    obtain rfl | rfl | rfl | rfl | rfl | rfl | rfl | rfl | rfl | rfl | rfl | rfl | rfl := ha <;> rfl

/-! ## The part after reset (R20, R86, R209) -/

theorem desc_reset (d : DescId) : State.reset.desc d = {} := by
  simp [State.desc, State.reset, Vector.get_eq_getElem]

theorem link_reset (n : LinkId) : State.reset.link n = Link.reset := by
  fin_cases n <;> rfl

theorem poolOk_reset : PoolOk .reset := by
  refine ⟨?owned, ⟨List.nodup_finRange 64, fun d => ?listed⟩, fun d _ => desc_reset d, fun d _ => ?clean⟩
  case owned =>
    have hnone : State.reset.descs.toList.flatMap (·.blocks) = [] := by simp [State.reset]
    rw [BlocksOwned, hnone, List.append_nil]
    exact List.Perm.refl _
  case listed =>
    rw [desc_reset]
    exact iff_of_true (List.mem_finRange d) rfl
  case clean => rw [desc_reset]

theorem sharedOwns_reset : SharedOwns .reset := by
  refine ⟨List.nodup_nil, List.nodup_nil, fun d => ?_⟩
  rw [desc_reset]
  simp [State.reset]

theorem linkOwns_reset (n : LinkId) : LinkOwns .reset n := by
  unfold LinkOwns State.le State.lu State.isOnLine
  simp [link_reset, desc_reset, Link.reset, LinkEngine.reset, LineUnit.reset, emptyWindow]

theorem watermarkOk_reset : WatermarkOk .reset := by
  simp [WatermarkOk, State.reset]

theorem lengthsOk_reset : LengthsOk .reset := by
  refine ⟨fun d hfree => absurd ?_ hfree, ?_, Nat.le_refl 0⟩
  · rw [desc_reset]
  · simp [State.reset]

/-- Nothing is retained, held or being stored. -/
theorem ordinalsOk_reset : OrdinalsOk .reset := by
  intro n
  unfold State.le State.lu
  rw [link_reset]
  refine ⟨fun i d hd => ?_, fun i d hd => ?_, fun d hd => ?_, ?_, ?_⟩
  · simp [Link.reset, LinkEngine.reset] at hd
  · fin_cases i <;> simp [Link.reset, LinkEngine.reset, emptyWindow] at hd
  all_goals simp_all [Link.reset, LineUnit.reset]

theorem statsOk_reset : StatsOk .reset := by
  refine ⟨?_, fun n c => ?_⟩
  · simp [GuaranteesOk, link_reset, Link.reset]
  · rw [link_reset]
    simp [Link.reset, Vector.get_eq_getElem]

/-- Settles O60: every descriptor is FREE, every queue empty and every link at its reset value. -/
theorem resetMeetsTheInvariants : Obligations.ResetMeetsTheInvariants := by
  obtain ⟨hguarantees, hcounters⟩ := statsOk_reset
  have hrecord : ∀ n, RecordOk (State.reset.lu n).record := fun n => by
    rw [State.lu, link_reset]
    exact recordOk_reset
  exact ⟨poolOk_reset, ⟨sharedOwns_reset, linkOwns_reset, hrecord⟩, watermarkOk_reset, by decide, lengthsOk_reset,
    fun n => link_reset n ▸ linkOk_reset, ordinalsOk_reset, hguarantees, hcounters⟩

/-! ## The register map after the resets (R202, R208, R210) -/

/-- The result word's fields stand in the result word alone, at word address 0 (R202). -/
theorem readWord_of_result (command : BitVec 4) (code : ResultCode) (cause : ResetCause) {a : BitVec 5} (ha : a ≠ 0)
    (s : State) : { s with resultCommand := command, resultCode := code, resetCause := cause }.readWord a = s.readWord a := by
  unfold State.readWord
  split
  case h_1 h => exact absurd (BitVec.eq_of_toNat_eq h) ha
  all_goals rfl

theorem readWord_result (s : State) : s.readWord 0 =
    field 0 3 s.resultCode.value ||| field 4 4 s.resultCommand.toNat ||| flagAt 8 (s.resetCause == .command) := rfl

/-- What a device-wide reset leaves alone is not in the register map: parcel memory, the receive lines with their
recognisers, and the model's queue (R20, R202). -/
theorem readWord_deviceWide (s : State) (a : BitVec 5) : s.deviceWide.readWord a = State.reset.readWord a := by
  unfold State.readWord
  split <;> rfl

/-- Settles O9: both resets answer the device-wide reset but for the result word, and the map is that of the reset state. -/
theorem resetRegisterMap : Obligations.ResetRegisterMap := by
  intro s l
  have hresult : field 0 3 ResultCode.done.value ||| field 4 4 (15 : BitVec 4).toNat |||
      flagAt 8 (ResetCause.command == .command) = 0x01F0 := by decide
  refine ⟨_, _, rfl, rfl, ?map, (readWord_result _).trans hresult,
    fun a ha => readWord_of_result _ _ _ ha s.deviceWide, fun v hv => ?hidden⟩
  case map =>
    simp only [readWord_deviceWide]
    decide +kernel
  case hidden =>
    rcases hv with rfl | rfl <;> exact ⟨rfl, rfl, rfl, rfl, rfl, rfl, rfl, rfl⟩

end Sys2Proof.Machine
end

section
/-! The family of chapter 11: the words that reads of the registers return. -/

namespace Sys2Proof.Machine

/-! ## Words of fields (R205)

A register's word is its fields from the lowest up, joined by `|||`; its value is the sum of the fields' values, each at its
position, as long as every field has its range. -/

/-- The word `x` has the value `v`, all of it below bit `k`. -/
def Packed (k v : Nat) (x : Word) : Prop := x.toNat = v ∧ v < 2 ^ k

theorem toNat_field {lo width v : Nat} (hv : v < 2 ^ width) (hfit : lo + width ≤ 16) :
    (field lo width v).toNat = 2 ^ lo * v := by
  have hplace : v * 2 ^ lo < 2 ^ 16 :=
    calc v * 2 ^ lo < 2 ^ width * 2 ^ lo := Nat.mul_lt_mul_of_pos_right hv (Nat.two_pow_pos lo)
      _ = 2 ^ (lo + width) := by rw [← Nat.pow_add, Nat.add_comm]
      _ ≤ 2 ^ 16 := Nat.pow_le_pow_right (by decide) hfit
  have hwidth : v < 2 ^ 16 := Nat.lt_of_lt_of_le hv (Nat.pow_le_pow_right (by decide) (by omega))
  rw [field, BitVec.toNat_shiftLeft, BitVec.toNat_ofNat, Nat.mod_eq_of_lt hv, Nat.mod_eq_of_lt hwidth, Nat.shiftLeft_eq,
    Nat.mod_eq_of_lt hplace, Nat.mul_comm]

namespace Packed

theorem first {width v : Nat} (hv : v < 2 ^ width) (hfit : width ≤ 16 := by decide) : Packed width v (field 0 width v) :=
  ⟨by rw [toNat_field hv (by omega), Nat.pow_zero, Nat.one_mul], hv⟩

theorem first_flag (b : Bool) : Packed 1 b.toNat (flagAt 0 b) := first (Bool.toNat_lt b)

/-- A field above the ones below it. -/
theorem or_field {k n lo width v : Nat} {x : Word} (h : Packed k n x) (hv : v < 2 ^ width) (hk : k ≤ lo := by decide)
    (hfit : lo + width ≤ 16 := by decide) : Packed (lo + width) (n + 2 ^ lo * v) (x ||| field lo width v) := by
  obtain ⟨hx, hn⟩ := h
  have hbelow : n < 2 ^ lo := Nat.lt_of_lt_of_le hn (Nat.pow_le_pow_right (by decide) hk)
  constructor
  · rw [BitVec.toNat_or, hx, toNat_field hv hfit, Nat.or_comm, ← Nat.two_pow_add_eq_or_of_lt hbelow, Nat.add_comm]
  · calc n + 2 ^ lo * v < 2 ^ lo * (v + 1) := by rw [Nat.mul_succ]; omega
      _ ≤ 2 ^ lo * 2 ^ width := Nat.mul_le_mul_left _ hv
      _ = 2 ^ (lo + width) := (Nat.pow_add _ _ _).symm

theorem or_flag {k n lo : Nat} {x : Word} (h : Packed k n x) (b : Bool) (hk : k ≤ lo := by decide)
    (hfit : lo + 1 ≤ 16 := by decide) : Packed (lo + 1) (n + 2 ^ lo * b.toNat) (x ||| flagAt lo b) :=
  h.or_field (Bool.toNat_lt b) hk hfit

end Packed

/-! ## The ranges of enumerated fields (R205) -/

theorem SessionState.value_lt (st : SessionState) : st.value < 2 ^ 3 := by cases st <;> decide

theorem EndCause.value_lt (c : EndCause) : c.value < 2 ^ 4 := by cases c <;> decide

theorem ResultCode.value_lt (r : ResultCode) : r.value < 2 ^ 3 := by cases r <;> decide

theorem originValue_lt (o : Option DrainOrigin) : originValue o < 2 ^ 2 := by
  rcases o with _ | _ | _ <;> decide

theorem modeValue_lt (m : Option TimerMode) : modeValue m < 2 ^ 2 := by
  rcases m with _ | _ | _ | _ <;> decide

/-! ## LINK STATUS (R203) -/

theorem packed_status0 (e : LinkEngine) : Packed 15
    (e.session.value + 8 * e.epoch.toNat + 128 * e.endCause.value + 2048 * originValue e.drainOrigin +
      8192 * modeValue e.timerMode) e.status0 :=
  ((((Packed.first e.session.value_lt).or_field e.epoch.isLt).or_field e.endCause.value_lt).or_field
    (originValue_lt e.drainOrigin)).or_field (modeValue_lt e.timerMode)

theorem packed_pending (p : Pending) : Packed 7
    (p.drop.toNat + 2 * p.grant.toNat + 4 * p.closeAck.toNat + 8 * p.open_.toNat + 16 * p.close.toNat +
      32 * p.receipt.toNat + 64 * p.query.toNat) p.word :=
  ((((((Packed.first_flag p.drop).or_flag p.grant).or_flag p.closeAck).or_flag p.open_).or_flag p.close).or_flag
    p.receipt).or_flag p.query

theorem packed_status1 {e : LinkEngine} (h : e.retryCount ≤ 15) : Packed 15
    (e.pending.drop.toNat + 2 * e.pending.grant.toNat + 4 * e.pending.closeAck.toNat + 8 * e.pending.open_.toNat +
      16 * e.pending.close.toNat + 32 * e.pending.receipt.toNat + 64 * e.pending.query.toNat + 128 * e.dropEpoch.toNat +
      2048 * e.retryCount) e.status1 :=
  ((packed_pending e.pending).or_field e.dropEpoch.isLt).or_field (by omega)

theorem exec_linkStatusRead_first {s : State} (h : s.statusPosition = .first) :
    exec .linkStatusRead s = .next { s with
      readData := some (s.le s.linkSelect).status0, statusHeld := (s.le s.linkSelect).status1,
      statusPosition := .second } := by
  simp [exec, execLinkStatusRead, State.linkStatusWord, State.driveData, h]

theorem exec_linkStatusRead_second {s : State} (h : s.statusPosition = .second) :
    exec .linkStatusRead s = .next { s with readData := some s.statusHeld, statusPosition := .first } := by
  simp [exec, execLinkStatusRead, State.linkStatusWord, State.driveData, h]

/-- Settles O12: the two reads and the write by the sequence's position, and both words by their fields. -/
theorem linkStatusSequence : Obligations.LinkStatusSequence := by
  refine ⟨fun s => exec_linkStatusRead_first, fun s => exec_linkStatusRead_second, fun w s => ?select,
    fun e hretry => ⟨(packed_status0 e).1, (packed_status1 hretry).1⟩, fun s n => live_iff _⟩
  case select =>
    change Host.Outcome.next { s with linkSelect := linkBits w 0, statusPosition := .first, statusHeld := 0 } = _
    rw [linkBits_eq_ofNat, Nat.pow_zero, Nat.div_one]

/-! ## The part's registers (R178, R189, R197, R208) -/

theorem toNat_resultWord (s : State) : s.resultWord.toNat =
    s.resultCode.value + 16 * s.resultCommand.toNat + 256 * (s.resetCause == .command).toNat :=
  (((Packed.first s.resultCode.value_lt).or_field s.resultCommand.isLt).or_flag _).1

theorem toNat_queueCounts {s : State} (hdelivery : s.delivery.length ≤ 64) (hcompletion : s.completion.length ≤ 64) :
    s.queueCounts.toNat = s.delivery.length + 256 * s.completion.length :=
  ((Packed.first (by omega)).or_field (by omega)).1

theorem toNat_poolStatus {s : State} (hblocks : s.freeBlocks.length ≤ 128) (hdescs : s.freeDescs.length ≤ 64) :
    s.poolStatus.toNat = s.freeBlocks.length + 256 * s.freeDescs.length + 32768 * s.armed.toNat :=
  (((Packed.first (by omega)).or_field (by omega)).or_flag s.armed).1

theorem toNat_counterSelect (s : State) :
    s.counterSelect.toNat = s.counterNumber.toNat + 16 * s.counterLink.val :=
  ((Packed.first s.counterNumber.isLt).or_field s.counterLink.isLt).1

theorem toNat_statisticsControl (s : State) : s.statisticsControl.toNat =
    s.readClears.toNat + 256 * (s.link 0).half.toNat + 512 * (s.link 1).half.toNat + 1024 * (s.link 2).half.toNat +
      2048 * (s.link 3).half.toNat :=
  (((((Packed.first_flag s.readClears).or_flag (s.link 0).half).or_flag (s.link 1).half).or_flag (s.link 2).half).or_flag
    (s.link 3).half).1

/-! ## A link's registers (R12, R27, R64, R113) -/

theorem toNat_window0 {e : LinkEngine} (hretention : e.retention.length ≤ 8) :
    e.window0.toNat = e.retention.length + 16 * e.nextOrdinal.toNat + 1024 * e.oldest.toNat :=
  (((Packed.first (by omega)).or_field e.nextOrdinal.isLt).or_field e.oldest.isLt).1

theorem heldCount_eq_length_filter (e : LinkEngine) : e.heldCount = (e.window.filter Option.isSome).length :=
  List.countP_eq_length_filter

theorem toNat_window1 {s : State} {n : LinkId} (hsubmit : (s.le n).submit.length ≤ 8) (hpeer : (s.le n).peerCredit ≤ 8)
    (hadvertised : (s.le n).advertised ≤ 8) (hwindow : (s.le n).window.length = 7) :
    (s.window1 n).toNat = (s.le n).submit.length + 16 * (s.le n).peerCredit + 256 * (s.le n).advertised +
      4096 * (s.le n).heldCount + 32768 * (s.hasDetached n).toNat :=
  have hheld : (s.le n).heldCount < 2 ^ 3 := Nat.lt_succ_of_le (hwindow ▸ List.countP_le_length)
  (((((Packed.first (by omega)).or_field (by omega)).or_field (by omega)).or_field hheld).or_flag (s.hasDetached n)).1

theorem toNat_timing1 {p : Params} (hlimit : p.retryLimit ≤ 15) (hthreshold : p.threshold ≤ 8)
    (hhold : p.holdTime ≤ 255) : p.timing1.toNat = p.retryLimit + 16 * p.threshold + 256 * p.holdTime :=
  (((Packed.first (by omega)).or_field (by omega)).or_field (by omega)).1

theorem toNat_mode {p : Params} (hrank : p.rank ≤ 3) : p.mode.toNat =
    p.rank + 4 * p.accept.toNat + 8 * p.reporting.toNat + 16 * (p.lossAction == .hold).toNat :=
  ((((Packed.first (by omega)).or_flag p.accept).or_flag p.reporting).or_flag _).1

theorem toNat_lineStatus (u : LineUnit) : u.status.toNat =
    (u.lineState == .up).toNat + 2 * u.breakPresent.toNat + 4 * (u.tx.phase == .parcel).toNat +
      8 * (u.record.phase == .inParcel).toNat :=
  ((((Packed.first_flag _).or_flag u.breakPresent).or_flag _).or_flag _).1

theorem toNat_linkPool {s : State} {n : LinkId} (hused : s.used n ≤ 128) (hguarantee : (s.link n).guarantee ≤ 128) :
    (s.linkPool n).toNat = s.used n + 256 * (s.link n).guarantee :=
  ((Packed.first (by omega)).or_field (by omega)).1

/-! ## Staging, delivery and completion (R159, R168, R174) -/

theorem toNat_stageStatus {s : State} {c : Staging} (hc : s.staging = some c) (hlength : c.length ≤ 240)
    (hcount : c.writeCount ≤ 240) : s.stageStatus0.toNat = c.length + 256 * c.link.val + 32768 ∧
      s.stageStatus1.toNat = c.writeCount := by
  rw [State.stageStatus0, State.stageStatus1, hc]
  exact ⟨(((Packed.first (by omega)).or_field c.link.isLt).or_flag true).1, (Packed.first (by omega)).1⟩

theorem stageStatus_of_closed {s : State} (hclosed : s.staging = none) : s.stageStatus0 = 0 ∧ s.stageStatus1 = 0 := by
  rw [State.stageStatus0, State.stageStatus1, hclosed]
  exact ⟨rfl, rfl⟩

/-- A flag of a descriptor reads as 0 where it is absent (R4). -/
theorem getD_false_eq_beq (o : Option Bool) : o.getD false = (o == some true) := by
  rcases o with _ | _ | _ <;> rfl

theorem toNat_deliveryStatus {s : State} {d : DescId} {rest : List DescId} {len : Nat} {k : LinkId} {o : Ordinal}
    {f : Epoch} (hqueue : s.delivery = d :: rest) (hlen : (s.desc d).length = some len) (hrange : len ≤ 240)
    (hlink : (s.desc d).link = some k) (hordinal : (s.desc d).ordinal = some o) (hepoch : (s.desc d).epoch = some f) :
    s.deliveryStatus0.toNat = len + 256 * k.val + 1024 * ((s.desc d).copy == some true).toNat +
        2048 * ((s.desc d).held == some true).toNat + 32768 ∧
      s.deliveryStatus1.toNat = o.toNat + 256 * f.toNat := by
  rw [State.deliveryStatus0, State.deliveryStatus1, hqueue]
  simp only [Descriptor.bytes, linkValue, hlen, hlink, hordinal, hepoch, getD_false_eq_beq, Option.getD_some]
  exact ⟨(((((Packed.first (by omega)).or_field k.isLt).or_flag _).or_flag _).or_flag true).1,
    ((Packed.first o.isLt).or_field f.isLt).1⟩

theorem deliveryStatus_of_empty {s : State} (hempty : s.delivery = []) : s.deliveryStatus0 = 0 ∧ s.deliveryStatus1 = 0 := by
  rw [State.deliveryStatus0, State.deliveryStatus1, hempty]
  exact ⟨rfl, rfl⟩

theorem toNat_completionRecord {s : State} {d : DescId} {rest : List DescId} {tag : Byte} {resends : Nat} {k : LinkId}
    (hqueue : s.completion = d :: rest) (htag : (s.desc d).tag = some tag) (hresends : (s.desc d).resends = some resends)
    (hrange : resends ≤ 15) (hlink : (s.desc d).link = some k) :
    s.completionRecord.toNat = tag.toNat + 256 * resends + 4096 * k.val +
      16384 * ((s.desc d).outcome == some .abandoned).toNat + 32768 := by
  rw [State.completionRecord, hqueue]
  simp only [linkValue, htag, hresends, hlink, Option.getD_some]
  exact (((((Packed.first tag.isLt).or_field (by omega)).or_field k.isLt).or_flag _).or_flag true).1

theorem completionRecord_of_empty {s : State} (hempty : s.completion = []) : s.completionRecord = 0 := by
  rw [State.completionRecord, hempty]

/-! ## The reads, address by address (R202, R205) -/

/-- A register that holds a number alone reads as that number. -/
theorem toNat_number {v : Nat} (h : v ≤ 65535) : (BitVec.ofNat 16 v).toNat = v := by
  rw [BitVec.toNat_ofNat]
  omega

/-- A flag that shows whether a condition holds. -/
theorem toNat_eq_ite {b : Bool} {p : Prop} [Decidable p] (h : b = true ↔ p) : b.toNat = if p then 1 else 0 := by
  cases b <;> simp_all

/-- Settles O13: the word of each address is its register's, and the value of that is the sum of its fields. -/
theorem registerReadsShowTheirFields : Obligations.RegisterReadsShowTheirFields := by
  intro s word l e p u bit
  refine ⟨?result, toNat_queueCounts, toNat_poolStatus, rfl, ?globalEvents, ?globalMask, ?events, ?mask, toNat_window0,
    ?window1, ?expected, ?rto, toNat_timing1, ?mode, ?divider, ?gap, ?loss, ?lineStatus, toNat_linkPool, ?watermark,
    ?prescale, ?noContext, fun c => toNat_stageStatus, ?noDelivery, fun d rest len k o f => toNat_deliveryStatus,
    ?noCompletion, ?completion, toNat_counterSelect s, toNat_statisticsControl s⟩
  case result =>
    refine (toNat_resultWord s).trans ?_
    cases s.resetCause <;> rfl
  case globalEvents => exact BitVec.toNat_setWidth_of_le (by decide)
  case globalMask => exact BitVec.toNat_setWidth_of_le (by decide)
  case events => exact BitVec.toNat_setWidth_of_le (by decide)
  case mask => exact BitVec.toNat_setWidth_of_le (by decide)
  case window1 =>
    intro hsubmit hpeer hadvertised hwindow
    refine (toNat_window1 hsubmit hpeer hadvertised hwindow).trans ?_
    rw [heldCount_eq_length_filter, toNat_eq_ite (hasDetached_iff s s.linkSelect)]
    rfl
  case expected => exact (Packed.first e.expected.isLt).1
  case rto => exact fun h => toNat_number (h.trans (by decide))
  case mode =>
    refine fun h => (toNat_mode h).trans ?_
    cases p.lossAction <;> rfl
  case divider => exact fun h => toNat_number (h.trans (by decide))
  case gap => exact fun h => toNat_number (h.trans (by decide))
  case loss => exact toNat_number
  case lineStatus =>
    refine (toNat_lineStatus u).trans ?_
    rw [toNat_eq_ite (b := u.tx.phase == .parcel) beq_iff_eq, mul_ite]
    cases u.lineState <;> cases u.record.phase <;> rfl
  case watermark => exact fun h => toNat_number (h.trans (by decide))
  case prescale => exact toNat_number
  case noContext =>
    intro h
    obtain ⟨hfirst, hsecond⟩ := stageStatus_of_closed h
    exact ⟨congrArg BitVec.toNat hfirst, congrArg BitVec.toNat hsecond⟩
  case noDelivery =>
    intro h
    obtain ⟨hfirst, hsecond⟩ := deliveryStatus_of_empty h
    exact ⟨congrArg BitVec.toNat hfirst, congrArg BitVec.toNat hsecond⟩
  case noCompletion => exact fun h => congrArg BitVec.toNat (completionRecord_of_empty h)
  case completion =>
    intro d rest tag resends k hqueue htag hresends hrange hlink
    refine (toNat_completionRecord hqueue htag hresends hrange hlink).trans ?_
    rw [toNat_eq_ite (b := (s.desc d).outcome == some .abandoned) beq_iff_eq, mul_ite]

end Sys2Proof.Machine
end

section
/-! The family of chapter 11: the bus, and the word that it carries (R201; log entry 10). -/

namespace Sys2Proof.Machine

/-! ## The driven word stays

Only a read, the end of a bus cycle and a device-wide reset change the word on D15-D0. Every operation that the other commands
share leaves it alone, shown in the order of the model's files. -/

theorem PoolFrame.readData {s t : State} (h : PoolFrame s t) : t.readData = s.readData := by
  have hsame : poolAsIn s t = s := h
  calc t.readData = (poolAsIn s t).readData := rfl
    _ = s.readData := by rw [hsame]

/-- A fold of changes that each leave the driven word alone. -/
@[simp] theorem readData_foldl {α : Type} {f : State → α → State} (hf : ∀ s a, (f s a).readData = s.readData)
    (l : List α) (s : State) : (l.foldl f s).readData = s.readData := by
  induction l generalizing s with
  | nil => rfl
  | cons a l ih => rw [List.foldl_cons, ih, hf]

theorem readData_claim {s t : State} {n : LinkId} {len : Nat} {fill : Descriptor} {d : DescId}
    (h : s.claim n len fill = some (d, t)) : t.readData = s.readData := by
  obtain ⟨rest, -, rfl⟩ := claim_eq_some h
  exact State.readData_afterClaim _

namespace State

variable (n : LinkId) (s : State)

@[simp] theorem readData_writePayload (d : DescId) (i : Nat) (v : Byte) : (s.writePayload d i v).readData = s.readData := by
  unfold State.writePayload
  split <;> rfl

/-! ### Completion and sessions -/

@[simp] theorem readData_completeAll (reporting : Bool) (ds : List DescId) :
    (s.completeAll reporting ds).readData = s.readData := (poolFrame_completeAll reporting ds s).readData

@[simp] theorem readData_completeDetached (d : DescId) : (s.completeDetached n d).readData = s.readData := by
  unfold State.completeDetached
  split <;> simp

@[simp] theorem readData_endSession (cause : EndCause) (keep : Keep) : (s.endSession n cause keep).readData = s.readData :=
  (poolFrame_endSession cause keep s n).readData

@[simp] theorem readData_drainTest : (s.drainTest n).readData = s.readData := by
  unfold State.drainTest
  split
  · split <;> simp
  · rfl

@[simp] theorem readData_openCommand : (s.openCommand n).readData = s.readData := by
  unfold State.openCommand
  split <;> simp

@[simp] theorem readData_closeCommand : (s.closeCommand n).readData = s.readData := by
  unfold State.closeCommand
  split <;> simp

@[simp] theorem readData_abortCommand : (s.abortCommand n).readData = s.readData := by
  unfold State.abortCommand
  split <;> simp

@[simp] theorem readData_openInClosed (accept : Bool) (epoch : Epoch) (credit : Nat) :
    (s.openInClosed n accept epoch credit).readData = s.readData := by
  unfold State.openInClosed
  split <;> simp

@[simp] theorem readData_openInOpening (epoch : Epoch) (rank credit : Nat) :
    (s.openInOpening n epoch rank credit).readData = s.readData := by
  unfold State.openInOpening
  split_ifs <;> simp

@[simp] theorem readData_takeOpen (epoch : Epoch) (rank credit : Nat) :
    (s.takeOpen n epoch rank credit).readData = s.readData := by
  unfold State.takeOpen State.peerRestart
  split <;> [skip; skip; split; split; split] <;> simp

@[simp] theorem readData_takeGrant (epoch : Epoch) (credit : Nat) : (s.takeGrant n epoch credit).readData = s.readData := by
  unfold State.takeGrant
  split <;> simp

@[simp] theorem readData_takeClose (epoch : Epoch) : (s.takeClose n epoch).readData = s.readData := by
  unfold State.takeClose
  split
  · split <;> simp
  · rfl

@[simp] theorem readData_takeCloseAck (epoch : Epoch) : (s.takeCloseAck n epoch).readData = s.readData := by
  unfold State.takeCloseAck
  split <;> simp

@[simp] theorem readData_takeDrop (epoch : Epoch) : (s.takeDrop n epoch).readData = s.readData := by
  unfold State.takeDrop
  split <;> simp

/-! ### Windows -/

@[simp] theorem readData_appendDelivery (held : Bool) (d : DescId) :
    (s.appendDelivery n held d).readData = s.readData := by
  simp [State.appendDelivery]

@[simp] theorem readData_dropData (d : DescId) (cause : DropCause) : (s.dropData n d cause).readData = s.readData := by
  simp [State.dropData, State.reportDrop]

@[simp] theorem readData_takeData (d : DescId) : (s.takeData n d).readData = s.readData := by
  unfold State.takeData State.deliver State.hold
  split
  · dsimp only
    split <;> simp
  · simp

@[simp] theorem readData_takeNomem : (s.takeNomem n).readData = s.readData := by
  unfold State.takeNomem State.reportDrop
  dsimp only
  split <;> simp

@[simp] theorem readData_takeNosession (epoch : Epoch) : (s.takeNosession n epoch).readData = s.readData := by
  unfold State.takeNosession State.reportDrop
  dsimp only
  split <;> simp

@[simp] theorem readData_acknowledge (k : Ordinal) (d : Nat) : (s.acknowledge n k d).readData = s.readData :=
  (poolFrame_acknowledge n k d s).readData

@[simp] theorem readData_takeValidReceipt (k : Ordinal) (gapMap : BitVec 7) (credit : Nat) :
    (s.takeValidReceipt n k gapMap credit).readData = s.readData := by
  simp [State.takeValidReceipt, State.markSeen]

@[simp] theorem readData_takeReceipt (epoch : Epoch) (k : Ordinal) (gapMap : BitVec 7) (credit : Nat) :
    (s.takeReceipt n epoch k gapMap credit).readData = s.readData := by
  unfold State.takeReceipt State.reportDrop
  split
  · simp
  · rfl
  all_goals split_ifs <;> simp

@[simp] theorem readData_takeQuery (epoch : Epoch) : (s.takeQuery n epoch).readData = s.readData := by
  unfold State.takeQuery State.reportDrop
  split
  · simp
  · rfl
  all_goals split_ifs <;> simp

/-! ### The receive side of a Line Unit -/

@[simp] theorem readData_releaseRecord : (s.releaseRecord n).readData = s.readData := by
  unfold State.releaseRecord
  split <;> simp

@[simp] theorem readData_abandonIfOpen (cause : DropCause) : (s.abandonIfOpen n cause).readData = s.readData := by
  unfold State.abandonIfOpen State.abandon State.reportDrop
  split <;> simp

@[simp] theorem readData_lineDown : (s.lineDown n).readData = s.readData := by
  unfold State.lineDown
  dsimp only
  split <;> simp

@[simp] theorem readData_lineLossExpires : (s.lineLossExpires n).readData = s.readData := by
  unfold State.lineLossExpires
  dsimp only
  split <;> simp

@[simp] theorem readData_setStorage (storage : Storage) (d : Option DescId) :
    (s.setStorage n storage d).readData = s.readData := rfl

@[simp] theorem readData_decideStorage (len : Nat) : (s.decideStorage n len).readData = s.readData := by
  unfold State.decideStorage
  split
  · split
    · rename_i hclaim
      simpa using readData_claim hclaim
    · rfl
  · rfl

@[simp] theorem readData_storageAt (i : Nat) (b : Byte) : (s.storageAt n i b).readData = s.readData := by
  unfold State.storageAt
  split
  · exact readData_decideStorage n s _
  all_goals rfl

@[simp] theorem readData_storePayload (i : Nat) (b : Byte) : (s.storePayload n i b).readData = s.readData := by
  unfold State.storePayload
  dsimp only
  split
  · split <;> simp
  · rfl

@[simp] theorem readData_takeByte (b : Byte) : (s.takeByte n b).readData = s.readData := by
  simp [State.takeByte]

@[simp] theorem readData_takeControl (k : Kind) (r : RxRecord) : (s.takeControl n k r).readData = s.readData := by
  unfold State.takeControl
  cases k <;> simp

@[simp] theorem readData_handOff (r : RxRecord) : (s.handOff n r).readData = s.readData := by
  unfold State.handOff
  split
  · split <;> simp
  all_goals simp

@[simp] theorem readData_finishParcel : (s.finishParcel n).readData = s.readData := by
  unfold State.finishParcel State.reportDrop
  dsimp only
  split <;> simp

@[simp] theorem readData_recognised (o : CharOutcome) : (s.recognised n o).readData = s.readData := by
  unfold State.recognised
  split
  · simp [State.faultedCharacter]
  · rw [goodCharacter_eq]
    split
    · unfold State.parcelCharacter State.abandon State.reportDrop
      split <;> simp
    · unfold State.huntCharacter
      split <;> simp

@[simp] theorem readData_atMark : (s.atMark n).readData = s.readData := by
  unfold State.atMark
  split <;> simp

@[simp] theorem readData_receiveSamples (samples : BitVec 12) : (s.receiveSamples n samples).readData = s.readData := by
  unfold State.receiveSamples
  dsimp only
  split_ifs <;> simp

@[simp] theorem readData_breakRecognised : (s.breakRecognised n).readData = s.readData := by
  unfold State.breakRecognised
  dsimp only
  split_ifs <;> simp

@[simp] theorem readData_gapExpires : (s.gapExpires n).readData = s.readData := by
  simp [State.gapExpires]

@[simp] theorem readData_writeGapLimit (w : Word) : (s.writeGapLimit n w).readData = s.readData := by
  unfold State.writeGapLimit
  dsimp only
  split <;> simp

@[simp] theorem readData_writeLossLimit (w : Word) : (s.writeLossLimit n w).readData = s.readData := by
  unfold State.writeLossLimit
  dsimp only
  split <;> simp

/-! ### LINK RESET, staging and registers -/

@[simp] theorem readData_resetLink : (s.resetLink n).readData = s.readData := by
  simp [State.resetLink, State.detach]

@[simp] theorem readData_setGuarantee : (s.setGuarantee n).readData = s.readData := by
  unfold State.setGuarantee
  dsimp only
  split <;> simp

@[simp] theorem readData_beginOn : (s.beginOn n).readData = s.readData := by
  unfold State.beginOn
  dsimp only
  split_ifs
  · simp
  · simp
  · split
    · simp
    · rename_i hclaim
      simpa using readData_claim hclaim

@[simp] theorem readData_stageWord (c : Staging) (w : Word) : (s.stageWord c w).readData = s.readData := by
  unfold State.stageWord
  dsimp only
  split <;> simp

@[simp] theorem readData_commitStaged (c : Staging) : (s.commitStaged c).readData = s.readData := by
  unfold State.commitStaged State.submitStaged
  split_ifs <;> simp

@[simp] theorem readData_writeWatermark (v : Nat) : (s.writeWatermark v).readData = s.readData := by
  unfold State.writeWatermark
  split_ifs <;> rfl

@[simp] theorem readData_writeRegister (a : BitVec 5) (w : Word) : (s.writeRegister a w).readData = s.readData := by
  unfold State.writeRegister
  split <;> rfl

/-! ### Timers and the transmitter -/

@[simp] theorem readData_expireIn (mode : TimerMode) : (s.expireIn n mode).readData = s.readData := by
  unfold State.expireIn State.linkTimerExpires
  dsimp only
  split_ifs
  · simp [State.exhaust]
  · cases mode <;> simp [State.expiryEffect, State.markResend]
  · rfl

@[simp] theorem readData_start (c : Choice) : (s.start n c).readData = s.readData := by
  cases c <;> simp [State.start, State.sendDrop, State.sendGrant, State.sendPlain, State.sendOpen, State.sendReceipt,
    State.resend, State.firstSend, State.send, State.advertise]

@[simp] theorem readData_wholeEnd (d : DescId) : (s.wholeEnd n d).readData = s.readData := by
  unfold State.wholeEnd State.offLine
  split <;> simp

@[simp] theorem readData_cutEnd (d : DescId) : (s.cutEnd n d).readData = s.readData := by
  unfold State.cutEnd State.offLine
  split <;> simp

end State

/-- An answer that leaves D15-D0 as they are. -/
def KeepsBus (s : State) : Host.Outcome State Fault Refusal → Prop := Answers fun t => t.readData = s.readData

@[simp] theorem keepsBus_next (s t : State) : KeepsBus s (.next t) ↔ t.readData = s.readData := Iff.rfl

/-- Every command but a reset and a read leaves the driven word alone: it is a composition of the shared operations. -/
theorem keepsBus_exec {c : Instr} (hpin : c ≠ .pinReset) (hdevice : ∀ l, c ≠ .deviceReset l) (hwf : c.wf = true)
    (hstatus : c ≠ .linkStatusRead) (hdelivery : c ≠ .deliveryDataRead) (hcounter : c ≠ .counterValueRead) (s : State) :
    KeepsBus s (exec c s) := by
  cases c with
  | pinReset => exact absurd rfl hpin
  | deviceReset l => exact absurd rfl (hdevice l)
  | linkStatusRead => exact absurd rfl hstatus
  | deliveryDataRead => exact absurd rfl hdelivery
  | counterValueRead => exact absurd rfl hcounter
  | hostOpen link => simp only [exec, execHostOpen]; split <;> simp
  | hostClose link => simp only [exec, execHostClose]; split <;> simp
  | hostAbort link => simp only [exec, execHostAbort]; split <;> simp
  | linkReset link => simp only [exec, execLinkReset]; split <;> simp
  | setGuarantee link => simp only [exec, execSetGuarantee]; split <;> simp
  | clearCounters link => simp only [exec, execClearCounters]; split <;> simp
  | beginStaging link =>
    simp only [exec, execBeginStaging]
    split
    · simp
    · split <;> simp
  | commit link => simp only [exec, execCommit]; split <;> simp
  | cancel link => simp only [exec, execCancel]; split <;> simp
  | release link => simp only [exec, execRelease]; split <;> simp
  | pop link => simp only [exec, execPop]; split <;> simp
  | unassignedCommandCode code link => rw [exec_unassignedCommandCode hwf]; simp
  | stageDataWrite w =>
    simp only [exec, execStageDataWrite]
    split
    · split <;> simp
    · simp
  | linkSelectWrite w => rfl
  | eventsWrite set w => cases set <;> rfl
  | maskWrite set w => cases set <;> rfl
  | poolWatermarkWrite w => exact State.readData_writeWatermark s _
  | lineLimitsWrite limit w =>
    cases limit with
    | gap => exact State.readData_writeGapLimit _ s w
    | lineLoss => exact State.readData_writeLossLimit _ s w
  | registerWrite a w =>
    rw [exec_registerWrite (by simpa [Instr.wf] using hwf)]
    exact State.readData_writeRegister s a w
  | receiveCharacter n x => simp only [exec, execReceiveCharacter]; split <;> simp
  | lineBreak n => simp only [exec, execLineBreak]; split <;> simp
  | lineLossExpiry n => simp only [exec, execLineLossExpiry]; split <;> simp
  | gapTimerExpiry n => simp only [exec, execGapTimerExpiry]; split <;> simp
  | receiveData n =>
    simp only [exec, execReceiveData]
    split
    · split <;> simp
    · simp
  | receiveReceipt n epoch k gapMap credit => exact State.readData_takeReceipt n s epoch k gapMap _
  | receiveQuery n epoch => exact State.readData_takeQuery n s epoch
  | receiveOpen n epoch rank credit => exact State.readData_takeOpen n s epoch _ _
  | receiveGrant n epoch credit => exact State.readData_takeGrant n s epoch _
  | receiveClose n epoch => exact State.readData_takeClose n s epoch
  | receiveCloseAck n epoch => exact State.readData_takeCloseAck n s epoch
  | receiveDrop n epoch => exact State.readData_takeDrop n s epoch
  | drainComplete n => exact State.readData_drainTest n s
  | transmitChoice n => simp only [exec, execTransmitChoice]; split <;> simp [State.makeChoice]
  | transmissionEnd n => simp only [exec, execTransmissionEnd]; split <;> simp
  | abortEnd n =>
    simp only [exec, execAbortEnd]
    split
    · split <;> simp
    · simp
  | transmitterFillStart n => simp only [exec, execTransmitterFillStart]; split <;> simp
  | controlExpiry n => exact State.readData_expireIn n s .control
  | resendExpiry n => exact State.readData_expireIn n s .resend
  | queryExpiry n => exact State.readData_expireIn n s .query
  | receiptHoldExpiry n => simp only [exec, execReceiptHoldExpiry]; split <;> simp
  | rxdReturnsToMark n => exact State.readData_atMark n s

/-! ## The access of a bus cycle (R201) -/

theorem access_of_no_strobe {c : BusCycle} (h : c.reset = true ∨ c.read = c.write) : c.access = none := by
  rw [BusCycle.access, if_pos (by simpa using h)]

theorem access_of_read {c : BusCycle} (hreset : c.reset = false) (hread : c.read = true) (hwrite : c.write = false) :
    c.access = some (.read c.address) := by
  simp [BusCycle.access, hreset, hread, hwrite]

theorem access_of_write {c : BusCycle} (hreset : c.reset = false) (hread : c.read = false) (hwrite : c.write = true) :
    c.access = if c.otherStrobe then none else some (.write c.address c.data) := by
  simp [BusCycle.access, hreset, hread, hwrite]

/-! ## The row of an access (R202, R206) -/

/-- The command of a COMMAND word by the word's value: bits 3-0 and bits 7-4 (R206). -/
theorem commandRow_eq (w : Word) :
    let link := BitVec.ofNat 4 (w.toNat / 16 % 16)
    commandRow w = match w.toNat % 16 with
      | 1 => .hostOpen link | 2 => .hostClose link | 3 => .hostAbort link | 4 => .linkReset link
      | 5 => .setGuarantee link | 6 => .beginStaging link | 7 => .commit link | 8 => .cancel link
      | 9 => .release link | 10 => .pop link | 11 => .clearCounters link | 15 => .deviceReset link
      | code => .unassignedCommandCode (BitVec.ofNat 4 code) link := by
  have hlink : w.extractLsb' 4 4 = BitVec.ofNat 4 (w.toNat / 16 % 16) :=
    BitVec.eq_of_toNat_eq (by rw [toNat_word_field, BitVec.toNat_ofNat]; omega)
  have hcode : w.extractLsb' 0 4 = BitVec.ofNat 4 (w.toNat % 16) := word_low_eq_ofNat 4 w
  have hlt : w.toNat % 16 < 16 := Nat.mod_lt _ (by decide)
  intro link
  simp only [commandRow, hlink, hcode]
  generalize w.toNat % 16 = code at hlt
  interval_cases code <;> rfl

theorem commandRow_wf (w : Word) : (commandRow w).wf = true := by
  have hlt : w.toNat % 16 < 16 := Nat.mod_lt _ (by decide)
  rw [commandRow_eq]
  generalize w.toNat % 16 = code at hlt
  interval_cases code <;> rfl

theorem writeRow_of_no_own_row {a : BitVec 5} (h : addressWithOwnRow a = false) (w : Word) :
    writeRow a w = .registerWrite a w := by
  rw [addressWithOwnRow_eq] at h
  unfold writeRow
  split
  case h_11 => rfl
  all_goals
    rename_i ha
    rw [ha] at h
    exact absurd h (by decide)

theorem writeRow_wf (a : BitVec 5) (w : Word) : (writeRow a w).wf = true := by
  cases h : addressWithOwnRow a with
  | false => simp [writeRow_of_no_own_row h, Instr.wf, h]
  | true =>
    simp only [addressWithOwnRow, List.contains_iff_mem, List.mem_cons, List.not_mem_nil, or_false] at h
    obtain rfl | rfl | rfl | rfl | rfl | rfl | rfl | rfl | rfl | rfl := h
    · exact commandRow_wf w
    all_goals rfl

theorem decodeTableWord_eq (w : Word) : decodeTableWord 16 w.toNat = some (writeRow 0x00 w) := by
  rw [decodeTableWord, if_pos (.inr rfl), BitVec.ofNat_toNat, BitVec.setWidth_eq]
  rfl

theorem step_withFetchWord (w : Word) (s : State) : step (s.withFetchWord 16 w.toNat) = exec (writeRow 0x00 w) s := by
  rw [State.withFetchWord, decodeTableWord_eq]
  rfl

theorem readRow_eq (a : BitVec 5) : readRow a =
    if a = 0x03 then some .linkStatusRead else if a = 0x1B then some .deliveryDataRead
    else if a = 0x1E then some .counterValueRead else none := by
  revert a; decide

/-! ## A read (R169, R197, R201, R203) -/

theorem deliveryWord_of_nothing_left {s : State} (h : s.bytesLeft = 0) : s.deliveryWord = 0 := by
  rw [State.deliveryWord, h]
  cases s.delivery <;> rfl

theorem exec_linkStatusRead_drives (s : State) :
    ∃ t, exec .linkStatusRead s = .next t ∧ t.dataBus = some s.linkStatusWord := by
  cases h : s.statusPosition with
  | first => exact ⟨_, exec_linkStatusRead_first h, by simp [State.dataBus, State.linkStatusWord, h]⟩
  | second => exact ⟨_, exec_linkStatusRead_second h, by simp [State.dataBus, State.linkStatusWord, h]⟩

theorem exec_deliveryDataRead_drives (s : State) :
    ∃ t, exec .deliveryDataRead s = .next t ∧ t.dataBus = some s.deliveryWord := by
  cases h : s.bytesLeft with
  | zero => exact ⟨_, exec_deliveryDataRead_of_nothing h, by rw [deliveryWord_of_nothing_left h]; rfl⟩
  | succ k => exact ⟨_, exec_deliveryDataRead_of_left h, rfl⟩

/-- A read that is a row of the table drives the word of its address. -/
theorem exec_readRow_drives {a : BitVec 5} {i : Instr} (h : readRow a = some i) (s : State) :
    ∃ t, exec i s = .next t ∧ t.dataBus = some (s.readWord a) := by
  rw [readRow_eq] at h
  split_ifs at h with hstatus hdelivery hcounter <;> cases h
  · exact hstatus ▸ exec_linkStatusRead_drives s
  · exact hdelivery ▸ exec_deliveryDataRead_drives s
  · exact hcounter ▸ ⟨_, exec_counterValueRead s, rfl⟩

theorem takeRead_drives (a : BitVec 5) (s : State) :
    ∃ t, s.takeRead a = .next t ∧ t.dataBus = some (s.readWord a) ∧
      (∀ i, readRow a = some i → exec i s = .next t) ∧ (readRow a = none → { t with readData := s.readData } = s) := by
  unfold State.takeRead
  cases h : readRow a with
  | none => exact ⟨_, rfl, rfl, by simp, fun _ => rfl⟩
  | some i =>
    obtain ⟨t, hexec, hdriven⟩ := exec_readRow_drives h s
    exact ⟨t, hexec, hdriven, by rintro i ⟨⟩; exact hexec, by simp⟩

/-! ## A bus cycle (R201) -/

section
variable {c : BusCycle} (s : State)

theorem cycle_of_no_access (h : c.access = none) :
    s.startCycle c = .next s ∧ s.endCycle c = .next { s with readData := none } := by
  simp [State.startCycle, State.endCycle, State.releaseBus, h]

theorem cycle_of_write {a : BitVec 5} {w : Word} (h : c.access = some (.write a w)) :
    s.startCycle c = .next s ∧ s.endCycle c = exec (writeRow a w) { s with readData := none } := by
  simp [State.startCycle, State.endCycle, State.takeWrite, State.releaseBus, h]

theorem cycle_of_read {a : BitVec 5} (h : c.access = some (.read a)) :
    s.startCycle c = s.takeRead a ∧ s.endCycle c = .next { s with readData := none } := by
  simp [State.startCycle, State.endCycle, State.releaseBus, h]

end

/-- Settles O10: the access by the strobes, its row by its address, the cycle by its access, and the driven word by the frame of
every other command. -/
theorem busCycleAccess : Obligations.BusCycleAccess := by
  refine ⟨fun c => access_of_no_strobe, fun c => access_of_read, fun c => access_of_write, writeRow_wf, fun w => ?rows,
    fun w s => ⟨decodeTableWord_eq w, step_withFetchWord w s⟩, readRow_eq,
    fun c s => ⟨cycle_of_no_access s, fun a w => cycle_of_write s, fun a ha => ?read⟩,
    fun i s t hexec => ⟨fun hreset => ?reset, fun hpin hdevice hwf hstatus hdelivery hcounter => ?kept⟩⟩
  case rows =>
    refine ⟨commandRow_eq w, rfl, rfl, rfl, rfl, rfl, rfl, rfl, rfl, rfl, fun a ha => writeRow_of_no_own_row ?_ w⟩
    simpa [addressWithOwnRow] using ha
  case read =>
    obtain ⟨hstart, hend⟩ := cycle_of_read s ha
    exact ⟨hend, hstart ▸ takeRead_drives a s⟩
  case reset =>
    obtain ⟨command, code, cause, hreset⟩ := exec_reset_eq_deviceWide hreset s
    rw [hreset] at hexec
    cases hexec
    rfl
  case kept =>
    have hkept := keepsBus_exec hpin hdevice hwf hstatus hdelivery hcounter s
    rw [hexec] at hkept
    exact hkept

end Sys2Proof.Machine
end

section
/-! The family of the step: every command completes, and leaves the clock's queue alone (R206; log entries 3, 4, 12, 22). -/

namespace Sys2Proof.Machine

/-! ## The clock's queue stays

The queue of waiting commands and the count of free values taken belong to the clock. Every operation that the commands share
leaves both alone, shown in the order of the model's files. -/

/-- `t` has the queue and the count of free values taken that `s` has. -/
@[simp] abbrev SameQueue (s t : State) : Prop := t.pending = s.pending ∧ t.freeIndex = s.freeIndex

theorem PoolFrame.sameQueue {s t : State} (h : PoolFrame s t) : SameQueue s t := by
  have hsame : SameQueue s (poolAsIn s t) := by rw [show poolAsIn s t = s from h]; exact ⟨rfl, rfl⟩
  exact hsame

/-- A fold of changes that each leave the queue alone. -/
@[simp] theorem sameQueue_foldl {α : Type} {f : State → α → State} (hf : ∀ s a, SameQueue s (f s a)) (l : List α)
    (s : State) : SameQueue s (l.foldl f s) := by
  induction l generalizing s with
  | nil => exact ⟨rfl, rfl⟩
  | cons a l ih =>
    obtain ⟨hpending, hfree⟩ := hf s a
    obtain ⟨hrest, hrestFree⟩ := ih (f s a)
    exact ⟨hrest.trans hpending, hrestFree.trans hfree⟩

theorem sameQueue_claim {s t : State} {n : LinkId} {len : Nat} {fill : Descriptor} {d : DescId}
    (h : s.claim n len fill = some (d, t)) : SameQueue s t := by
  obtain ⟨rest, -, rfl⟩ := claim_eq_some h
  exact ⟨State.pending_afterClaim _, State.freeIndex_afterClaim _⟩

namespace State

variable (n : LinkId) (s : State)

@[simp] theorem sameQueue_writePayload (d : DescId) (i : Nat) (v : Byte) : SameQueue s (s.writePayload d i v) := by
  unfold State.writePayload
  split <;> simp

/-! ### Completion and sessions -/

@[simp] theorem sameQueue_completeDetached (d : DescId) : SameQueue s (s.completeDetached n d) := by
  unfold State.completeDetached
  split
  · simp
  · exact (poolFrame_completeAll _ _ s).sameQueue

@[simp] theorem sameQueue_endSession (cause : EndCause) (keep : Keep) : SameQueue s (s.endSession n cause keep) :=
  (poolFrame_endSession cause keep s n).sameQueue

@[simp] theorem sameQueue_drainTest : SameQueue s (s.drainTest n) := by
  unfold State.drainTest
  split
  · split <;> simp
  · simp

@[simp] theorem sameQueue_openCommand : SameQueue s (s.openCommand n) := by
  unfold State.openCommand
  split <;> simp

@[simp] theorem sameQueue_closeCommand : SameQueue s (s.closeCommand n) := by
  unfold State.closeCommand
  split <;> simp

@[simp] theorem sameQueue_abortCommand : SameQueue s (s.abortCommand n) := by
  unfold State.abortCommand
  split <;> simp

@[simp] theorem sameQueue_openInClosed (accept : Bool) (epoch : Epoch) (credit : Nat) :
    SameQueue s (s.openInClosed n accept epoch credit) := by
  unfold State.openInClosed
  split <;> simp

@[simp] theorem sameQueue_openInOpening (epoch : Epoch) (rank credit : Nat) :
    SameQueue s (s.openInOpening n epoch rank credit) := by
  unfold State.openInOpening
  split_ifs <;> simp

@[simp] theorem sameQueue_takeOpen (epoch : Epoch) (rank credit : Nat) :
    SameQueue s (s.takeOpen n epoch rank credit) := by
  unfold State.takeOpen State.peerRestart
  split
  · simp
  · simp
  all_goals split_ifs <;> simp

@[simp] theorem sameQueue_takeGrant (epoch : Epoch) (credit : Nat) : SameQueue s (s.takeGrant n epoch credit) := by
  unfold State.takeGrant
  split <;> simp

@[simp] theorem sameQueue_takeClose (epoch : Epoch) : SameQueue s (s.takeClose n epoch) := by
  unfold State.takeClose
  split
  · split <;> simp
  · simp

@[simp] theorem sameQueue_takeCloseAck (epoch : Epoch) : SameQueue s (s.takeCloseAck n epoch) := by
  unfold State.takeCloseAck
  split <;> simp

@[simp] theorem sameQueue_takeDrop (epoch : Epoch) : SameQueue s (s.takeDrop n epoch) := by
  unfold State.takeDrop
  split <;> simp

/-! ### Windows -/

@[simp] theorem sameQueue_appendDelivery (held : Bool) (d : DescId) : SameQueue s (s.appendDelivery n held d) := by
  simp [State.appendDelivery]

@[simp] theorem sameQueue_takeData (d : DescId) : SameQueue s (s.takeData n d) := by
  unfold State.takeData State.deliver State.hold State.dropData State.reportDrop
  split
  · dsimp only
    split <;> simp
  · simp

@[simp] theorem sameQueue_takeNomem : SameQueue s (s.takeNomem n) := by
  unfold State.takeNomem State.reportDrop
  dsimp only
  split <;> simp

@[simp] theorem sameQueue_takeNosession (epoch : Epoch) : SameQueue s (s.takeNosession n epoch) := by
  unfold State.takeNosession State.reportDrop
  dsimp only
  split <;> simp

@[simp] theorem sameQueue_takeValidReceipt (k : Ordinal) (gapMap : BitVec 7) (credit : Nat) :
    SameQueue s (s.takeValidReceipt n k gapMap credit) := by
  obtain ⟨hpending, hfree⟩ := (poolFrame_acknowledge n k (offsetFrom (s.le n).oldest k) s).sameQueue
  simp [State.takeValidReceipt, State.markSeen, hpending, hfree]

@[simp] theorem sameQueue_takeReceipt (epoch : Epoch) (k : Ordinal) (gapMap : BitVec 7) (credit : Nat) :
    SameQueue s (s.takeReceipt n epoch k gapMap credit) := by
  unfold State.takeReceipt State.reportDrop
  split
  · simp
  · simp
  all_goals split_ifs <;> simp

@[simp] theorem sameQueue_takeQuery (epoch : Epoch) : SameQueue s (s.takeQuery n epoch) := by
  unfold State.takeQuery State.reportDrop
  split
  · simp
  · simp
  all_goals split_ifs <;> simp

/-! ### The receive side of a Line Unit -/

@[simp] theorem sameQueue_releaseRecord : SameQueue s (s.releaseRecord n) := by
  unfold State.releaseRecord
  split <;> simp

@[simp] theorem sameQueue_abandonIfOpen (cause : DropCause) : SameQueue s (s.abandonIfOpen n cause) := by
  unfold State.abandonIfOpen State.abandon State.reportDrop
  split <;> simp

@[simp] theorem sameQueue_lineDown : SameQueue s (s.lineDown n) := by
  unfold State.lineDown
  dsimp only
  split <;> simp

@[simp] theorem sameQueue_lineLossExpires : SameQueue s (s.lineLossExpires n) := by
  unfold State.lineLossExpires
  dsimp only
  split <;> simp

@[simp] theorem sameQueue_decideStorage (len : Nat) : SameQueue s (s.decideStorage n len) := by
  unfold State.decideStorage State.setStorage
  split
  · split
    · rename_i hclaim
      simpa using sameQueue_claim hclaim
    · simp
  · simp

@[simp] theorem sameQueue_storageAt (i : Nat) (b : Byte) : SameQueue s (s.storageAt n i b) := by
  unfold State.storageAt State.setStorage
  split <;> simp

@[simp] theorem sameQueue_storePayload (i : Nat) (b : Byte) : SameQueue s (s.storePayload n i b) := by
  unfold State.storePayload
  dsimp only
  split
  · split <;> simp
  · simp

@[simp] theorem sameQueue_takeControl (k : Kind) (r : RxRecord) : SameQueue s (s.takeControl n k r) := by
  unfold State.takeControl
  cases k <;> simp

@[simp] theorem sameQueue_handOff (r : RxRecord) : SameQueue s (s.handOff n r) := by
  unfold State.handOff
  split
  · split <;> simp
  all_goals simp

@[simp] theorem sameQueue_finishParcel : SameQueue s (s.finishParcel n) := by
  unfold State.finishParcel State.reportDrop
  dsimp only
  split <;> simp

@[simp] theorem sameQueue_huntCharacter (c : LineChar) : SameQueue s (s.huntCharacter n c) := by
  unfold State.huntCharacter
  split <;> simp

@[simp] theorem sameQueue_parcelCharacter (c : LineChar) : SameQueue s (s.parcelCharacter n c) := by
  unfold State.parcelCharacter State.takeByte State.abandon State.reportDrop
  split <;> simp

@[simp] theorem sameQueue_recognised (o : CharOutcome) : SameQueue s (s.recognised n o) := by
  unfold State.recognised
  split
  · simp [State.faultedCharacter]
  · rw [goodCharacter_eq]
    split <;> simp

@[simp] theorem sameQueue_atMark : SameQueue s (s.atMark n) := by
  unfold State.atMark
  split <;> simp

@[simp] theorem sameQueue_receiveSamples (samples : BitVec 12) : SameQueue s (s.receiveSamples n samples) := by
  unfold State.receiveSamples
  dsimp only
  split_ifs <;> simp

@[simp] theorem sameQueue_breakRecognised : SameQueue s (s.breakRecognised n) := by
  unfold State.breakRecognised
  dsimp only
  split_ifs <;> simp

@[simp] theorem sameQueue_gapExpires : SameQueue s (s.gapExpires n) := by
  simp [State.gapExpires]

@[simp] theorem sameQueue_writeGapLimit (w : Word) : SameQueue s (s.writeGapLimit n w) := by
  unfold State.writeGapLimit
  dsimp only
  split <;> simp

@[simp] theorem sameQueue_writeLossLimit (w : Word) : SameQueue s (s.writeLossLimit n w) := by
  unfold State.writeLossLimit
  dsimp only
  split <;> simp

/-! ### LINK RESET, staging, counters and registers -/

@[simp] theorem sameQueue_resetLink : SameQueue s (s.resetLink n) := by
  simp [State.resetLink, State.detach]

@[simp] theorem sameQueue_setGuarantee : SameQueue s (s.setGuarantee n) := by
  unfold State.setGuarantee
  dsimp only
  split <;> simp

@[simp] theorem sameQueue_beginOn : SameQueue s (s.beginOn n) := by
  unfold State.beginOn
  dsimp only
  split_ifs
  · simp
  · simp
  · split
    · simp
    · rename_i hclaim
      simpa using sameQueue_claim hclaim

@[simp] theorem sameQueue_stageWord (c : Staging) (w : Word) : SameQueue s (s.stageWord c w) := by
  unfold State.stageWord
  dsimp only
  split <;> simp

@[simp] theorem sameQueue_commitStaged (c : Staging) : SameQueue s (s.commitStaged c) := by
  unfold State.commitStaged State.submitStaged
  split_ifs <;> simp

@[simp] theorem sameQueue_zeroSelected : SameQueue s s.zeroSelected := by
  unfold State.zeroSelected
  split <;> simp

@[simp] theorem sameQueue_writeWatermark (v : Nat) : SameQueue s (s.writeWatermark v) := by
  unfold State.writeWatermark
  split_ifs <;> simp

@[simp] theorem sameQueue_writeRegister (a : BitVec 5) (w : Word) : SameQueue s (s.writeRegister a w) := by
  unfold State.writeRegister State.modProgrammed
  split <;> simp

/-! ### Timers and the transmitter -/

@[simp] theorem sameQueue_expireIn (mode : TimerMode) : SameQueue s (s.expireIn n mode) := by
  unfold State.expireIn State.linkTimerExpires
  dsimp only
  split_ifs
  · simp [State.exhaust]
  · cases mode <;> simp [State.expiryEffect, State.markResend]
  · simp

@[simp] theorem sameQueue_start (c : Choice) : SameQueue s (s.start n c) := by
  cases c <;> simp [State.start, State.sendDrop, State.sendGrant, State.sendPlain, State.sendOpen, State.sendReceipt,
    State.resend, State.firstSend, State.send, State.advertise]

@[simp] theorem sameQueue_wholeEnd (d : DescId) : SameQueue s (s.wholeEnd n d) := by
  unfold State.wholeEnd State.offLine
  split <;> simp

@[simp] theorem sameQueue_cutEnd (d : DescId) : SameQueue s (s.cutEnd n d) := by
  unfold State.cutEnd State.offLine
  split <;> simp

end State

/-! ## Every command completes -/

/-- The answer is a next state, with the queue of waiting commands and the count of free values taken as they were. -/
def Completes (s : State) : Host.Outcome State Fault Refusal → Prop
  | .next t => SameQueue s t
  | .fault _ => False
  | .refused _ => False

@[simp] theorem completes_next (s t : State) : Completes s (.next t) ↔ SameQueue s t := Iff.rfl

theorem exists_next_of_completes {s : State} {o : Host.Outcome State Fault Refusal} (h : Completes s o) :
    ∃ t, o = .next t ∧ t.pending = s.pending ∧ t.freeIndex = s.freeIndex := by
  cases o with
  | next t => exact ⟨t, rfl, h⟩
  | fault f => exact h.elim
  | refused r => exact h.elim

/-- Every row of the table completes: it is a composition of the shared operations. -/
theorem completes_exec_of_wf {c : Instr} (hwf : c.wf = true) (s : State) : Completes s (exec c s) := by
  cases c with
  | hostOpen link => simp only [exec, execHostOpen]; split <;> simp
  | hostClose link => simp only [exec, execHostClose]; split <;> simp
  | hostAbort link => simp only [exec, execHostAbort]; split <;> simp
  | linkReset link => simp only [exec, execLinkReset]; split <;> simp
  | setGuarantee link => simp only [exec, execSetGuarantee]; split <;> simp
  | beginStaging link =>
    simp only [exec, execBeginStaging]
    split
    · simp
    · split <;> simp
  | commit link => simp only [exec, execCommit]; split <;> simp
  | cancel link => simp only [exec, execCancel]; split <;> simp
  | release link => simp only [exec, execRelease]; split <;> simp
  | pop link => simp only [exec, execPop]; split <;> simp
  | clearCounters link => simp only [exec, execClearCounters]; split <;> simp
  | deviceReset link => exact ⟨rfl, rfl⟩
  | pinReset => exact ⟨rfl, rfl⟩
  | unassignedCommandCode code link => rw [exec_unassignedCommandCode hwf]; simp
  | stageDataWrite w =>
    simp only [exec, execStageDataWrite]
    split
    · split <;> simp
    · simp
  | deliveryDataRead => simp only [exec, execDeliveryDataRead]; split <;> simp
  | counterValueRead => simp only [exec, execCounterValueRead]; split <;> simp
  | linkStatusRead => simp only [exec, execLinkStatusRead]; split <;> simp
  | linkSelectWrite w => exact ⟨rfl, rfl⟩
  | eventsWrite set w => cases set <;> exact ⟨rfl, rfl⟩
  | maskWrite set w => cases set <;> exact ⟨rfl, rfl⟩
  | poolWatermarkWrite w => exact State.sameQueue_writeWatermark s _
  | lineLimitsWrite limit w =>
    cases limit with
    | gap => exact State.sameQueue_writeGapLimit _ s w
    | lineLoss => exact State.sameQueue_writeLossLimit _ s w
  | registerWrite a w =>
    rw [exec_registerWrite (by simpa [Instr.wf] using hwf)]
    exact State.sameQueue_writeRegister s a w
  | receiveCharacter n x => simp only [exec, execReceiveCharacter]; split <;> simp
  | lineBreak n => simp only [exec, execLineBreak]; split <;> simp
  | lineLossExpiry n => simp only [exec, execLineLossExpiry]; split <;> simp
  | gapTimerExpiry n => simp only [exec, execGapTimerExpiry]; split <;> simp
  | receiveData n =>
    simp only [exec, execReceiveData]
    split
    · split <;> simp
    · simp
  | receiveReceipt n epoch k gapMap credit => exact State.sameQueue_takeReceipt n s epoch k gapMap _
  | receiveQuery n epoch => exact State.sameQueue_takeQuery n s epoch
  | receiveOpen n epoch rank credit => exact State.sameQueue_takeOpen n s epoch _ _
  | receiveGrant n epoch credit => exact State.sameQueue_takeGrant n s epoch _
  | receiveClose n epoch => exact State.sameQueue_takeClose n s epoch
  | receiveCloseAck n epoch => exact State.sameQueue_takeCloseAck n s epoch
  | receiveDrop n epoch => exact State.sameQueue_takeDrop n s epoch
  | drainComplete n => exact State.sameQueue_drainTest n s
  | transmitChoice n => simp only [exec, execTransmitChoice]; split <;> simp [State.makeChoice]
  | transmissionEnd n => simp only [exec, execTransmissionEnd]; split <;> simp
  | abortEnd n =>
    simp only [exec, execAbortEnd]
    split
    · split <;> simp
    · simp
  | transmitterFillStart n => simp only [exec, execTransmitterFillStart]; split <;> simp
  | controlExpiry n => exact State.sameQueue_expireIn n s .control
  | resendExpiry n => exact State.sameQueue_expireIn n s .resend
  | queryExpiry n => exact State.sameQueue_expireIn n s .query
  | receiptHoldExpiry n => simp only [exec, execReceiptHoldExpiry]; split <;> simp
  | rxdReturnsToMark n => exact State.sameQueue_atMark n s

/-! ## Terms that are no row of the table (log entry 12) -/

/-- The command that a code and a link number spell together is that of the COMMAND word they make up (R206). -/
theorem exec_unassignedCommandCode_eq_commandRow (w : Word) (s : State) :
    exec (.unassignedCommandCode (w.extractLsb' 0 4) (w.extractLsb' 4 4)) s = exec (commandRow w) s := by
  unfold commandRow
  split
  case h_13 => rfl
  all_goals
    rename_i hcode
    simp only [exec, execUnassignedCommandCode, hcode]

/-- A register write acts as the row of its address, whatever the address (R202). -/
theorem exec_registerWrite_eq_writeRow (a : BitVec 5) (w : Word) (s : State) :
    exec (.registerWrite a w) s = exec (writeRow a w) s := by
  cases h : addressWithOwnRow a with
  | false => rw [writeRow_of_no_own_row h]
  | true =>
    simp only [addressWithOwnRow, List.contains_iff_mem, List.mem_cons, List.not_mem_nil, or_false] at h
    obtain rfl | rfl | rfl | rfl | rfl | rfl | rfl | rfl | rfl | rfl := h
    · exact exec_unassignedCommandCode_eq_commandRow w s
    all_goals rfl

/-- A COMMAND word has room for every code with every link number, in bits 3-0 and 7-4 (R206). -/
theorem exists_commandWord (code link : BitVec 4) :
    ∃ w : Word, w.extractLsb' 0 4 = code ∧ w.extractLsb' 4 4 = link := by
  have hvalue : (BitVec.ofNat 16 (code.toNat + 16 * link.toNat)).toNat = code.toNat + 16 * link.toNat := by
    rw [BitVec.toNat_ofNat]; omega
  refine ⟨BitVec.ofNat 16 (code.toNat + 16 * link.toNat), BitVec.eq_of_toNat_eq ?_, BitVec.eq_of_toNat_eq ?_⟩
  · rw [toNat_word_field, hvalue]; omega
  · rw [toNat_word_field, hvalue]; omega

/-- Every term acts as a row of the table, so that what every row does, every term does. -/
theorem exists_wf_exec_eq (c : Instr) : ∃ r : Instr, r.wf = true ∧ ∀ s, exec c s = exec r s := by
  cases c with
  | unassignedCommandCode code link =>
    obtain ⟨w, rfl, rfl⟩ := exists_commandWord code link
    exact ⟨commandRow w, commandRow_wf w, exec_unassignedCommandCode_eq_commandRow w⟩
  | registerWrite a w => exact ⟨writeRow a w, writeRow_wf a w, exec_registerWrite_eq_writeRow a w⟩
  | _ => exact ⟨_, rfl, fun _ => rfl⟩

/-- Settles O2: every term acts as a row of the table, and every row completes. -/
theorem everyCommandCompletes : Obligations.EveryCommandCompletes := fun c s => by
  obtain ⟨r, hwf, hexec⟩ := exists_wf_exec_eq c
  rw [hexec s]
  exact exists_next_of_completes (completes_exec_of_wf hwf s)

end Sys2Proof.Machine
end
